-- ==== Sys2Proof/Word.lean ====
section
/-! DEFINITION. The two word types of the core: a byte (registers A, X, Y, SP, OPCODE, the data bus, one memory
location) and a 16-bit address (PC, the address bus). 10_state.md R10, R11, R13; 20_memory.md R40. -/

namespace Sys2Proof

/-- An 8-bit value: a register, a memory byte, an opcode or operand byte (R10, R40). -/
abbrev Byte := BitVec 8

/-- A 16-bit address; arithmetic wraps modulo 65536 (R13, R40). -/
abbrev Addr := BitVec 16

end Sys2Proof
end

