-- ==== Sys2Proof/Machine/Bits.lean ====
section
/-! DEFINITION. Bit-field, extension and byte-order helpers (00_scope.md R8; 20_memory.md R52). -/

namespace Sys2Proof

/-- `lo8(v) = v[7:0]` (R8). -/
def lo8 (v : Addr) : Byte := v.extractLsb' 0 8

/-- `hi8(v) = v[15:8]` (R8). -/
def hi8 (v : Addr) : Byte := v.extractLsb' 8 8

/-- `hi ++ lo = hi * 256 + lo` (R8; R72: "lo | (hi << 8)"). -/
def joinBytes (hi lo : Byte) : Addr := hi ++ lo

/-- An unsigned byte as a 16-bit number (`zext`, R8): a zero-page address, an index. -/
def zext16 (b : Byte) : Addr := b.setWidth 16

/-- `sext_8(d)` as a 16-bit two's complement number (R8, R72): a branch displacement. -/
def sext16 (d : Byte) : Addr := d.signExtend 16

end Sys2Proof
end

