-- ==== Sys2Proof/Syntax.lean ====
section
/-! DEFINITION. The instructions: one constructor per row of spec/opcode_table.json (151 rows; 30_encoding.md R73,
R76). A constructor's name is the mnemonic followed by the addressing mode: `Imm` (`#`), `Zp`, `ZpX`, `ZpY`, `Abs`,
`AbsX`, `AbsY`, `IndX` (`(zp,X)`), `IndY` (`(zp),Y`), `Ind` (`(abs)`), `Acc` (accumulator), nothing for Implied and
Relative (R71). The argument is the operand: one byte, or the 16-bit number two operand bytes make (R72). -/

namespace Sys2Proof

/-- An instruction with its operand. Every operand value is legal (30_encoding.md R82). -/
inductive Instr where
  -- LDA
  | ldaImm (imm : Byte)
  | ldaZp (zp : Byte)
  | ldaZpX (zp : Byte)
  | ldaAbs (addr : Addr)
  | ldaAbsX (addr : Addr)
  | ldaAbsY (addr : Addr)
  | ldaIndX (zp : Byte)
  | ldaIndY (zp : Byte)
  -- LDX
  | ldxImm (imm : Byte)
  | ldxZp (zp : Byte)
  | ldxZpY (zp : Byte)
  | ldxAbs (addr : Addr)
  | ldxAbsY (addr : Addr)
  -- LDY
  | ldyImm (imm : Byte)
  | ldyZp (zp : Byte)
  | ldyZpX (zp : Byte)
  | ldyAbs (addr : Addr)
  | ldyAbsX (addr : Addr)
  -- STA
  | staZp (zp : Byte)
  | staZpX (zp : Byte)
  | staAbs (addr : Addr)
  | staAbsX (addr : Addr)
  | staAbsY (addr : Addr)
  | staIndX (zp : Byte)
  | staIndY (zp : Byte)
  -- STX
  | stxZp (zp : Byte)
  | stxZpY (zp : Byte)
  | stxAbs (addr : Addr)
  -- STY
  | styZp (zp : Byte)
  | styZpX (zp : Byte)
  | styAbs (addr : Addr)
  -- TAX
  | tax
  -- TAY
  | tay
  -- TXA
  | txa
  -- TYA
  | tya
  -- TSX
  | tsx
  -- TXS
  | txs
  -- ADC
  | adcImm (imm : Byte)
  | adcZp (zp : Byte)
  | adcZpX (zp : Byte)
  | adcAbs (addr : Addr)
  | adcAbsX (addr : Addr)
  | adcAbsY (addr : Addr)
  | adcIndX (zp : Byte)
  | adcIndY (zp : Byte)
  -- SBC
  | sbcImm (imm : Byte)
  | sbcZp (zp : Byte)
  | sbcZpX (zp : Byte)
  | sbcAbs (addr : Addr)
  | sbcAbsX (addr : Addr)
  | sbcAbsY (addr : Addr)
  | sbcIndX (zp : Byte)
  | sbcIndY (zp : Byte)
  -- AND
  | andImm (imm : Byte)
  | andZp (zp : Byte)
  | andZpX (zp : Byte)
  | andAbs (addr : Addr)
  | andAbsX (addr : Addr)
  | andAbsY (addr : Addr)
  | andIndX (zp : Byte)
  | andIndY (zp : Byte)
  -- ORA
  | oraImm (imm : Byte)
  | oraZp (zp : Byte)
  | oraZpX (zp : Byte)
  | oraAbs (addr : Addr)
  | oraAbsX (addr : Addr)
  | oraAbsY (addr : Addr)
  | oraIndX (zp : Byte)
  | oraIndY (zp : Byte)
  -- EOR
  | eorImm (imm : Byte)
  | eorZp (zp : Byte)
  | eorZpX (zp : Byte)
  | eorAbs (addr : Addr)
  | eorAbsX (addr : Addr)
  | eorAbsY (addr : Addr)
  | eorIndX (zp : Byte)
  | eorIndY (zp : Byte)
  -- BIT
  | bitZp (zp : Byte)
  | bitAbs (addr : Addr)
  -- ASL
  | aslAcc
  | aslZp (zp : Byte)
  | aslZpX (zp : Byte)
  | aslAbs (addr : Addr)
  | aslAbsX (addr : Addr)
  -- LSR
  | lsrAcc
  | lsrZp (zp : Byte)
  | lsrZpX (zp : Byte)
  | lsrAbs (addr : Addr)
  | lsrAbsX (addr : Addr)
  -- ROL
  | rolAcc
  | rolZp (zp : Byte)
  | rolZpX (zp : Byte)
  | rolAbs (addr : Addr)
  | rolAbsX (addr : Addr)
  -- ROR
  | rorAcc
  | rorZp (zp : Byte)
  | rorZpX (zp : Byte)
  | rorAbs (addr : Addr)
  | rorAbsX (addr : Addr)
  -- INC
  | incZp (zp : Byte)
  | incZpX (zp : Byte)
  | incAbs (addr : Addr)
  | incAbsX (addr : Addr)
  -- DEC
  | decZp (zp : Byte)
  | decZpX (zp : Byte)
  | decAbs (addr : Addr)
  | decAbsX (addr : Addr)
  -- INX
  | inx
  -- INY
  | iny
  -- DEX
  | dex
  -- DEY
  | dey
  -- CMP
  | cmpImm (imm : Byte)
  | cmpZp (zp : Byte)
  | cmpZpX (zp : Byte)
  | cmpAbs (addr : Addr)
  | cmpAbsX (addr : Addr)
  | cmpAbsY (addr : Addr)
  | cmpIndX (zp : Byte)
  | cmpIndY (zp : Byte)
  -- CPX
  | cpxImm (imm : Byte)
  | cpxZp (zp : Byte)
  | cpxAbs (addr : Addr)
  -- CPY
  | cpyImm (imm : Byte)
  | cpyZp (zp : Byte)
  | cpyAbs (addr : Addr)
  -- BCC
  | bcc (rel : Byte)
  -- BCS
  | bcs (rel : Byte)
  -- BEQ
  | beq (rel : Byte)
  -- BNE
  | bne (rel : Byte)
  -- BMI
  | bmi (rel : Byte)
  -- BPL
  | bpl (rel : Byte)
  -- BVC
  | bvc (rel : Byte)
  -- BVS
  | bvs (rel : Byte)
  -- JMP
  | jmpAbs (addr : Addr)
  | jmpInd (ptr : Addr)
  -- JSR
  | jsrAbs (addr : Addr)
  -- RTS
  | rts
  -- BRK
  | brk
  -- RTI
  | rti
  -- CLC
  | clc
  -- SEC
  | sec
  -- CLD
  | cld
  -- SED
  | sed
  -- CLI
  | cli
  -- SEI
  | sei
  -- CLV
  | clv
  -- PHA
  | pha
  -- PHP
  | php
  -- PLA
  | pla
  -- PLP
  | plp
  -- NOP
  | nop
  deriving DecidableEq, Repr

end Sys2Proof
end

