-- ==== Sys2Proof/WellFormed.lean ====
section
/-! DEFINITION. What a well-formed instruction is: a mnemonic written in one of the addressing modes it has.
30_encoding.md R71 (the thirteen formats), R76 (the modes of every mnemonic), R74 ("Every (mnemonic, mode) pair
occurs for exactly one byte"); 91_not_in_source.md N3 ("any pair outside that list decodes" must not be assumed).
Operand bytes are unconstrained (R82), so the operand's own value needs no check. -/

namespace Sys2Proof

/-- The 56 mnemonics (30_encoding.md R76), spelled as the spec spells them. -/
inductive Mnemonic where
  | LDA | LDX | LDY | STA | STX | STY | TAX | TAY
  | TXA | TYA | TSX | TXS | ADC | SBC | AND | ORA
  | EOR | BIT | ASL | LSR | ROL | ROR | INC | DEC
  | INX | INY | DEX | DEY | CMP | CPX | CPY | BCC
  | BCS | BEQ | BNE | BMI | BPL | BVC | BVS | JMP
  | JSR | RTS | BRK | RTI | CLC | SEC | CLD | SED
  | CLI | SEI | CLV | PHA | PHP | PLA | PLP | NOP
  deriving DecidableEq, Repr

/-- The thirteen addressing modes (R71). -/
inductive Mode where
  | implied | accumulator | immediate | zeroPage | zeroPageX | zeroPageY | absolute | absoluteX | absoluteY
  | indirectX | indirectY | indirect | relative
  deriving DecidableEq, Repr

/-- The number of operand bytes of a mode (R71, the column "Operand bytes"). -/
def Mode.operandBytes : Mode → Nat
  | .implied | .accumulator => 0
  | .immediate | .zeroPage | .zeroPageX | .zeroPageY | .indirectX | .indirectY | .relative => 1
  | .absolute | .absoluteX | .absoluteY | .indirect => 2

/-- An operand in one of the ten modes that have an effective address (40_step_and_addressing.md R97 to R106). -/
inductive AddrForm where
  | imm (v : Byte)
  | zp (z : Byte)
  | zpX (z : Byte)
  | zpY (z : Byte)
  | abs (a : Addr)
  | absX (a : Addr)
  | absY (a : Addr)
  | indX (z : Byte)
  | indY (z : Byte)
  | ind (p : Addr)
  deriving DecidableEq, Repr

/-- An operand in any of the thirteen modes: no operand, the accumulator, a branch displacement, or one with an
effective address. The resolver is asked for an address of the last kind only, so the condition
`InternalInvariantViolation` (60_exceptions.md R242) cannot be written down; log 21. -/
inductive Operand where
  | imp
  | acc
  | rel (d : Byte)
  | addr (f : AddrForm)
  deriving DecidableEq, Repr

/-- The addressing mode an operand with an effective address is written in. -/
def AddrForm.mode : AddrForm → Mode
  | .imm _ => .immediate
  | .zp _ => .zeroPage
  | .zpX _ => .zeroPageX
  | .zpY _ => .zeroPageY
  | .abs _ => .absolute
  | .absX _ => .absoluteX
  | .absY _ => .absoluteY
  | .indX _ => .indirectX
  | .indY _ => .indirectY
  | .ind _ => .indirect

/-- The addressing mode an operand is written in. -/
def Operand.mode : Operand → Mode
  | .imp => .implied
  | .acc => .accumulator
  | .rel _ => .relative
  | .addr f => f.mode

/-- An instruction as it is written: a mnemonic and an operand (R77). -/
structure Asm where
  mnemonic : Mnemonic
  operand  : Operand
  deriving DecidableEq, Repr

/-- The modes each mnemonic has (R76). -/
def Mnemonic.modes : Mnemonic → List Mode
  | .LDA => [.immediate, .zeroPage, .zeroPageX, .absolute, .absoluteX, .absoluteY, .indirectX, .indirectY]
  | .LDX => [.immediate, .zeroPage, .zeroPageY, .absolute, .absoluteY]
  | .LDY => [.immediate, .zeroPage, .zeroPageX, .absolute, .absoluteX]
  | .STA => [.zeroPage, .zeroPageX, .absolute, .absoluteX, .absoluteY, .indirectX, .indirectY]
  | .STX => [.zeroPage, .zeroPageY, .absolute]
  | .STY => [.zeroPage, .zeroPageX, .absolute]
  | .TAX => [.implied]
  | .TAY => [.implied]
  | .TXA => [.implied]
  | .TYA => [.implied]
  | .TSX => [.implied]
  | .TXS => [.implied]
  | .ADC => [.immediate, .zeroPage, .zeroPageX, .absolute, .absoluteX, .absoluteY, .indirectX, .indirectY]
  | .SBC => [.immediate, .zeroPage, .zeroPageX, .absolute, .absoluteX, .absoluteY, .indirectX, .indirectY]
  | .AND => [.immediate, .zeroPage, .zeroPageX, .absolute, .absoluteX, .absoluteY, .indirectX, .indirectY]
  | .ORA => [.immediate, .zeroPage, .zeroPageX, .absolute, .absoluteX, .absoluteY, .indirectX, .indirectY]
  | .EOR => [.immediate, .zeroPage, .zeroPageX, .absolute, .absoluteX, .absoluteY, .indirectX, .indirectY]
  | .BIT => [.zeroPage, .absolute]
  | .ASL => [.accumulator, .zeroPage, .zeroPageX, .absolute, .absoluteX]
  | .LSR => [.accumulator, .zeroPage, .zeroPageX, .absolute, .absoluteX]
  | .ROL => [.accumulator, .zeroPage, .zeroPageX, .absolute, .absoluteX]
  | .ROR => [.accumulator, .zeroPage, .zeroPageX, .absolute, .absoluteX]
  | .INC => [.zeroPage, .zeroPageX, .absolute, .absoluteX]
  | .DEC => [.zeroPage, .zeroPageX, .absolute, .absoluteX]
  | .INX => [.implied]
  | .INY => [.implied]
  | .DEX => [.implied]
  | .DEY => [.implied]
  | .CMP => [.immediate, .zeroPage, .zeroPageX, .absolute, .absoluteX, .absoluteY, .indirectX, .indirectY]
  | .CPX => [.immediate, .zeroPage, .absolute]
  | .CPY => [.immediate, .zeroPage, .absolute]
  | .BCC => [.relative]
  | .BCS => [.relative]
  | .BEQ => [.relative]
  | .BNE => [.relative]
  | .BMI => [.relative]
  | .BPL => [.relative]
  | .BVC => [.relative]
  | .BVS => [.relative]
  | .JMP => [.absolute, .indirect]
  | .JSR => [.absolute]
  | .RTS => [.implied]
  | .BRK => [.implied]
  | .RTI => [.implied]
  | .CLC => [.implied]
  | .SEC => [.implied]
  | .CLD => [.implied]
  | .SED => [.implied]
  | .CLI => [.implied]
  | .SEI => [.implied]
  | .CLV => [.implied]
  | .PHA => [.implied]
  | .PHP => [.implied]
  | .PLA => [.implied]
  | .PLP => [.implied]
  | .NOP => [.implied]

/-- A written instruction exists: its mnemonic has the mode of its operand (R76, N3). -/
def Asm.wf (w : Asm) : Bool := w.mnemonic.modes.contains w.operand.mode

/-- How an instruction is written: its mnemonic and its operand (R76). -/
def Instr.asm : Instr → Asm
  | .ldaImm v => ⟨.LDA, .addr (.imm v)⟩
  | .ldaZp z => ⟨.LDA, .addr (.zp z)⟩
  | .ldaZpX z => ⟨.LDA, .addr (.zpX z)⟩
  | .ldaAbs a => ⟨.LDA, .addr (.abs a)⟩
  | .ldaAbsX a => ⟨.LDA, .addr (.absX a)⟩
  | .ldaAbsY a => ⟨.LDA, .addr (.absY a)⟩
  | .ldaIndX z => ⟨.LDA, .addr (.indX z)⟩
  | .ldaIndY z => ⟨.LDA, .addr (.indY z)⟩
  | .ldxImm v => ⟨.LDX, .addr (.imm v)⟩
  | .ldxZp z => ⟨.LDX, .addr (.zp z)⟩
  | .ldxZpY z => ⟨.LDX, .addr (.zpY z)⟩
  | .ldxAbs a => ⟨.LDX, .addr (.abs a)⟩
  | .ldxAbsY a => ⟨.LDX, .addr (.absY a)⟩
  | .ldyImm v => ⟨.LDY, .addr (.imm v)⟩
  | .ldyZp z => ⟨.LDY, .addr (.zp z)⟩
  | .ldyZpX z => ⟨.LDY, .addr (.zpX z)⟩
  | .ldyAbs a => ⟨.LDY, .addr (.abs a)⟩
  | .ldyAbsX a => ⟨.LDY, .addr (.absX a)⟩
  | .staZp z => ⟨.STA, .addr (.zp z)⟩
  | .staZpX z => ⟨.STA, .addr (.zpX z)⟩
  | .staAbs a => ⟨.STA, .addr (.abs a)⟩
  | .staAbsX a => ⟨.STA, .addr (.absX a)⟩
  | .staAbsY a => ⟨.STA, .addr (.absY a)⟩
  | .staIndX z => ⟨.STA, .addr (.indX z)⟩
  | .staIndY z => ⟨.STA, .addr (.indY z)⟩
  | .stxZp z => ⟨.STX, .addr (.zp z)⟩
  | .stxZpY z => ⟨.STX, .addr (.zpY z)⟩
  | .stxAbs a => ⟨.STX, .addr (.abs a)⟩
  | .styZp z => ⟨.STY, .addr (.zp z)⟩
  | .styZpX z => ⟨.STY, .addr (.zpX z)⟩
  | .styAbs a => ⟨.STY, .addr (.abs a)⟩
  | .tax => ⟨.TAX, .imp⟩
  | .tay => ⟨.TAY, .imp⟩
  | .txa => ⟨.TXA, .imp⟩
  | .tya => ⟨.TYA, .imp⟩
  | .tsx => ⟨.TSX, .imp⟩
  | .txs => ⟨.TXS, .imp⟩
  | .adcImm v => ⟨.ADC, .addr (.imm v)⟩
  | .adcZp z => ⟨.ADC, .addr (.zp z)⟩
  | .adcZpX z => ⟨.ADC, .addr (.zpX z)⟩
  | .adcAbs a => ⟨.ADC, .addr (.abs a)⟩
  | .adcAbsX a => ⟨.ADC, .addr (.absX a)⟩
  | .adcAbsY a => ⟨.ADC, .addr (.absY a)⟩
  | .adcIndX z => ⟨.ADC, .addr (.indX z)⟩
  | .adcIndY z => ⟨.ADC, .addr (.indY z)⟩
  | .sbcImm v => ⟨.SBC, .addr (.imm v)⟩
  | .sbcZp z => ⟨.SBC, .addr (.zp z)⟩
  | .sbcZpX z => ⟨.SBC, .addr (.zpX z)⟩
  | .sbcAbs a => ⟨.SBC, .addr (.abs a)⟩
  | .sbcAbsX a => ⟨.SBC, .addr (.absX a)⟩
  | .sbcAbsY a => ⟨.SBC, .addr (.absY a)⟩
  | .sbcIndX z => ⟨.SBC, .addr (.indX z)⟩
  | .sbcIndY z => ⟨.SBC, .addr (.indY z)⟩
  | .andImm v => ⟨.AND, .addr (.imm v)⟩
  | .andZp z => ⟨.AND, .addr (.zp z)⟩
  | .andZpX z => ⟨.AND, .addr (.zpX z)⟩
  | .andAbs a => ⟨.AND, .addr (.abs a)⟩
  | .andAbsX a => ⟨.AND, .addr (.absX a)⟩
  | .andAbsY a => ⟨.AND, .addr (.absY a)⟩
  | .andIndX z => ⟨.AND, .addr (.indX z)⟩
  | .andIndY z => ⟨.AND, .addr (.indY z)⟩
  | .oraImm v => ⟨.ORA, .addr (.imm v)⟩
  | .oraZp z => ⟨.ORA, .addr (.zp z)⟩
  | .oraZpX z => ⟨.ORA, .addr (.zpX z)⟩
  | .oraAbs a => ⟨.ORA, .addr (.abs a)⟩
  | .oraAbsX a => ⟨.ORA, .addr (.absX a)⟩
  | .oraAbsY a => ⟨.ORA, .addr (.absY a)⟩
  | .oraIndX z => ⟨.ORA, .addr (.indX z)⟩
  | .oraIndY z => ⟨.ORA, .addr (.indY z)⟩
  | .eorImm v => ⟨.EOR, .addr (.imm v)⟩
  | .eorZp z => ⟨.EOR, .addr (.zp z)⟩
  | .eorZpX z => ⟨.EOR, .addr (.zpX z)⟩
  | .eorAbs a => ⟨.EOR, .addr (.abs a)⟩
  | .eorAbsX a => ⟨.EOR, .addr (.absX a)⟩
  | .eorAbsY a => ⟨.EOR, .addr (.absY a)⟩
  | .eorIndX z => ⟨.EOR, .addr (.indX z)⟩
  | .eorIndY z => ⟨.EOR, .addr (.indY z)⟩
  | .bitZp z => ⟨.BIT, .addr (.zp z)⟩
  | .bitAbs a => ⟨.BIT, .addr (.abs a)⟩
  | .aslAcc => ⟨.ASL, .acc⟩
  | .aslZp z => ⟨.ASL, .addr (.zp z)⟩
  | .aslZpX z => ⟨.ASL, .addr (.zpX z)⟩
  | .aslAbs a => ⟨.ASL, .addr (.abs a)⟩
  | .aslAbsX a => ⟨.ASL, .addr (.absX a)⟩
  | .lsrAcc => ⟨.LSR, .acc⟩
  | .lsrZp z => ⟨.LSR, .addr (.zp z)⟩
  | .lsrZpX z => ⟨.LSR, .addr (.zpX z)⟩
  | .lsrAbs a => ⟨.LSR, .addr (.abs a)⟩
  | .lsrAbsX a => ⟨.LSR, .addr (.absX a)⟩
  | .rolAcc => ⟨.ROL, .acc⟩
  | .rolZp z => ⟨.ROL, .addr (.zp z)⟩
  | .rolZpX z => ⟨.ROL, .addr (.zpX z)⟩
  | .rolAbs a => ⟨.ROL, .addr (.abs a)⟩
  | .rolAbsX a => ⟨.ROL, .addr (.absX a)⟩
  | .rorAcc => ⟨.ROR, .acc⟩
  | .rorZp z => ⟨.ROR, .addr (.zp z)⟩
  | .rorZpX z => ⟨.ROR, .addr (.zpX z)⟩
  | .rorAbs a => ⟨.ROR, .addr (.abs a)⟩
  | .rorAbsX a => ⟨.ROR, .addr (.absX a)⟩
  | .incZp z => ⟨.INC, .addr (.zp z)⟩
  | .incZpX z => ⟨.INC, .addr (.zpX z)⟩
  | .incAbs a => ⟨.INC, .addr (.abs a)⟩
  | .incAbsX a => ⟨.INC, .addr (.absX a)⟩
  | .decZp z => ⟨.DEC, .addr (.zp z)⟩
  | .decZpX z => ⟨.DEC, .addr (.zpX z)⟩
  | .decAbs a => ⟨.DEC, .addr (.abs a)⟩
  | .decAbsX a => ⟨.DEC, .addr (.absX a)⟩
  | .inx => ⟨.INX, .imp⟩
  | .iny => ⟨.INY, .imp⟩
  | .dex => ⟨.DEX, .imp⟩
  | .dey => ⟨.DEY, .imp⟩
  | .cmpImm v => ⟨.CMP, .addr (.imm v)⟩
  | .cmpZp z => ⟨.CMP, .addr (.zp z)⟩
  | .cmpZpX z => ⟨.CMP, .addr (.zpX z)⟩
  | .cmpAbs a => ⟨.CMP, .addr (.abs a)⟩
  | .cmpAbsX a => ⟨.CMP, .addr (.absX a)⟩
  | .cmpAbsY a => ⟨.CMP, .addr (.absY a)⟩
  | .cmpIndX z => ⟨.CMP, .addr (.indX z)⟩
  | .cmpIndY z => ⟨.CMP, .addr (.indY z)⟩
  | .cpxImm v => ⟨.CPX, .addr (.imm v)⟩
  | .cpxZp z => ⟨.CPX, .addr (.zp z)⟩
  | .cpxAbs a => ⟨.CPX, .addr (.abs a)⟩
  | .cpyImm v => ⟨.CPY, .addr (.imm v)⟩
  | .cpyZp z => ⟨.CPY, .addr (.zp z)⟩
  | .cpyAbs a => ⟨.CPY, .addr (.abs a)⟩
  | .bcc d => ⟨.BCC, .rel d⟩
  | .bcs d => ⟨.BCS, .rel d⟩
  | .beq d => ⟨.BEQ, .rel d⟩
  | .bne d => ⟨.BNE, .rel d⟩
  | .bmi d => ⟨.BMI, .rel d⟩
  | .bpl d => ⟨.BPL, .rel d⟩
  | .bvc d => ⟨.BVC, .rel d⟩
  | .bvs d => ⟨.BVS, .rel d⟩
  | .jmpAbs a => ⟨.JMP, .addr (.abs a)⟩
  | .jmpInd p => ⟨.JMP, .addr (.ind p)⟩
  | .jsrAbs a => ⟨.JSR, .addr (.abs a)⟩
  | .rts => ⟨.RTS, .imp⟩
  | .brk => ⟨.BRK, .imp⟩
  | .rti => ⟨.RTI, .imp⟩
  | .clc => ⟨.CLC, .imp⟩
  | .sec => ⟨.SEC, .imp⟩
  | .cld => ⟨.CLD, .imp⟩
  | .sed => ⟨.SED, .imp⟩
  | .cli => ⟨.CLI, .imp⟩
  | .sei => ⟨.SEI, .imp⟩
  | .clv => ⟨.CLV, .imp⟩
  | .pha => ⟨.PHA, .imp⟩
  | .php => ⟨.PHP, .imp⟩
  | .pla => ⟨.PLA, .imp⟩
  | .plp => ⟨.PLP, .imp⟩
  | .nop => ⟨.NOP, .imp⟩

/-- A well-formed instruction. Every term of `Instr` is (Laws/PerInstr.lean), which is R82: "every one of the 256
opcode bytes is either one of the 151 instructions or raises UnsupportedOpcode". -/
def Instr.wf (i : Instr) : Bool := i.asm.wf

end Sys2Proof
end

