-- ==== Sys2Proof/Decode.lean ====
section
/-! DEFINITION. The decoder (30_encoding.md R70, R72 to R75, R80), total on any list of bytes, and after it the
encoder, written from the list by mnemonic (R76). -/

namespace Sys2Proof

/-- What an opcode byte selects: an instruction of one, two or three bytes, waiting for its operand (R71, R75). -/
inductive OpForm where
  | one   (i : Instr)
  | two   (f : Byte → Instr)
  | three (f : Addr → Instr)

/-- Row 0x of the opcode map (R73); `none` is its `·`, an unsupported opcode (R80, R81). -/
def opRow0 : List (Option OpForm) :=
  [ some (.one .brk), some (.two .oraIndX), none, none,
    none, some (.two .oraZp), some (.two .aslZp), none,
    some (.one .php), some (.two .oraImm), some (.one .aslAcc), none,
    none, some (.three .oraAbs), some (.three .aslAbs), none ]

/-- Row 1x of the opcode map (R73); `none` is its `·`, an unsupported opcode (R80, R81). -/
def opRow1 : List (Option OpForm) :=
  [ some (.two .bpl), some (.two .oraIndY), none, none,
    none, some (.two .oraZpX), some (.two .aslZpX), none,
    some (.one .clc), some (.three .oraAbsY), none, none,
    none, some (.three .oraAbsX), some (.three .aslAbsX), none ]

/-- Row 2x of the opcode map (R73); `none` is its `·`, an unsupported opcode (R80, R81). -/
def opRow2 : List (Option OpForm) :=
  [ some (.three .jsrAbs), some (.two .andIndX), none, none,
    some (.two .bitZp), some (.two .andZp), some (.two .rolZp), none,
    some (.one .plp), some (.two .andImm), some (.one .rolAcc), none,
    some (.three .bitAbs), some (.three .andAbs), some (.three .rolAbs), none ]

/-- Row 3x of the opcode map (R73); `none` is its `·`, an unsupported opcode (R80, R81). -/
def opRow3 : List (Option OpForm) :=
  [ some (.two .bmi), some (.two .andIndY), none, none,
    none, some (.two .andZpX), some (.two .rolZpX), none,
    some (.one .sec), some (.three .andAbsY), none, none,
    none, some (.three .andAbsX), some (.three .rolAbsX), none ]

/-- Row 4x of the opcode map (R73); `none` is its `·`, an unsupported opcode (R80, R81). -/
def opRow4 : List (Option OpForm) :=
  [ some (.one .rti), some (.two .eorIndX), none, none,
    none, some (.two .eorZp), some (.two .lsrZp), none,
    some (.one .pha), some (.two .eorImm), some (.one .lsrAcc), none,
    some (.three .jmpAbs), some (.three .eorAbs), some (.three .lsrAbs), none ]

/-- Row 5x of the opcode map (R73); `none` is its `·`, an unsupported opcode (R80, R81). -/
def opRow5 : List (Option OpForm) :=
  [ some (.two .bvc), some (.two .eorIndY), none, none,
    none, some (.two .eorZpX), some (.two .lsrZpX), none,
    some (.one .cli), some (.three .eorAbsY), none, none,
    none, some (.three .eorAbsX), some (.three .lsrAbsX), none ]

/-- Row 6x of the opcode map (R73); `none` is its `·`, an unsupported opcode (R80, R81). -/
def opRow6 : List (Option OpForm) :=
  [ some (.one .rts), some (.two .adcIndX), none, none,
    none, some (.two .adcZp), some (.two .rorZp), none,
    some (.one .pla), some (.two .adcImm), some (.one .rorAcc), none,
    some (.three .jmpInd), some (.three .adcAbs), some (.three .rorAbs), none ]

/-- Row 7x of the opcode map (R73); `none` is its `·`, an unsupported opcode (R80, R81). -/
def opRow7 : List (Option OpForm) :=
  [ some (.two .bvs), some (.two .adcIndY), none, none,
    none, some (.two .adcZpX), some (.two .rorZpX), none,
    some (.one .sei), some (.three .adcAbsY), none, none,
    none, some (.three .adcAbsX), some (.three .rorAbsX), none ]

/-- Row 8x of the opcode map (R73); `none` is its `·`, an unsupported opcode (R80, R81). -/
def opRow8 : List (Option OpForm) :=
  [ none, some (.two .staIndX), none, none,
    some (.two .styZp), some (.two .staZp), some (.two .stxZp), none,
    some (.one .dey), none, some (.one .txa), none,
    some (.three .styAbs), some (.three .staAbs), some (.three .stxAbs), none ]

/-- Row 9x of the opcode map (R73); `none` is its `·`, an unsupported opcode (R80, R81). -/
def opRow9 : List (Option OpForm) :=
  [ some (.two .bcc), some (.two .staIndY), none, none,
    some (.two .styZpX), some (.two .staZpX), some (.two .stxZpY), none,
    some (.one .tya), some (.three .staAbsY), some (.one .txs), none,
    none, some (.three .staAbsX), none, none ]

/-- Row Ax of the opcode map (R73); `none` is its `·`, an unsupported opcode (R80, R81). -/
def opRowA : List (Option OpForm) :=
  [ some (.two .ldyImm), some (.two .ldaIndX), some (.two .ldxImm), none,
    some (.two .ldyZp), some (.two .ldaZp), some (.two .ldxZp), none,
    some (.one .tay), some (.two .ldaImm), some (.one .tax), none,
    some (.three .ldyAbs), some (.three .ldaAbs), some (.three .ldxAbs), none ]

/-- Row Bx of the opcode map (R73); `none` is its `·`, an unsupported opcode (R80, R81). -/
def opRowB : List (Option OpForm) :=
  [ some (.two .bcs), some (.two .ldaIndY), none, none,
    some (.two .ldyZpX), some (.two .ldaZpX), some (.two .ldxZpY), none,
    some (.one .clv), some (.three .ldaAbsY), some (.one .tsx), none,
    some (.three .ldyAbsX), some (.three .ldaAbsX), some (.three .ldxAbsY), none ]

/-- Row Cx of the opcode map (R73); `none` is its `·`, an unsupported opcode (R80, R81). -/
def opRowC : List (Option OpForm) :=
  [ some (.two .cpyImm), some (.two .cmpIndX), none, none,
    some (.two .cpyZp), some (.two .cmpZp), some (.two .decZp), none,
    some (.one .iny), some (.two .cmpImm), some (.one .dex), none,
    some (.three .cpyAbs), some (.three .cmpAbs), some (.three .decAbs), none ]

/-- Row Dx of the opcode map (R73); `none` is its `·`, an unsupported opcode (R80, R81). -/
def opRowD : List (Option OpForm) :=
  [ some (.two .bne), some (.two .cmpIndY), none, none,
    none, some (.two .cmpZpX), some (.two .decZpX), none,
    some (.one .cld), some (.three .cmpAbsY), none, none,
    none, some (.three .cmpAbsX), some (.three .decAbsX), none ]

/-- Row Ex of the opcode map (R73); `none` is its `·`, an unsupported opcode (R80, R81). -/
def opRowE : List (Option OpForm) :=
  [ some (.two .cpxImm), some (.two .sbcIndX), none, none,
    some (.two .cpxZp), some (.two .sbcZp), some (.two .incZp), none,
    some (.one .inx), some (.two .sbcImm), some (.one .nop), none,
    some (.three .cpxAbs), some (.three .sbcAbs), some (.three .incAbs), none ]

/-- Row Fx of the opcode map (R73); `none` is its `·`, an unsupported opcode (R80, R81). -/
def opRowF : List (Option OpForm) :=
  [ some (.two .beq), some (.two .sbcIndY), none, none,
    none, some (.two .sbcZpX), some (.two .incZpX), none,
    some (.one .sed), some (.three .sbcAbsY), none, none,
    none, some (.three .sbcAbsX), some (.three .incAbsX), none ]

/-- The opcode map, row by row (R73). -/
def opRows : List (List (Option OpForm)) :=
  [ opRow0, opRow1, opRow2, opRow3, opRow4, opRow5, opRow6, opRow7,
    opRow8, opRow9, opRowA, opRowB, opRowC, opRowD, opRowE, opRowF ]

/-- `Decode(b)`: "the entry of rule R73 at row b[7:4], column b[3:0]" (R74); `none` is `illegal`. -/
def opForm (op : Byte) : Option OpForm :=
  (opRows.getD (op.toNat / 16) []).getD (op.toNat % 16) none

/-- Why bytes decode to no instruction. -/
inductive DecodeError where
  /-- there is no byte at all -/
  | empty
  /-- the opcode byte is one of the 105 of R81 -/
  | unsupportedOpcode (op : Byte)
  /-- the opcode byte is an instruction's, but its operand bytes (R71) are not all there -/
  | truncated (op : Byte)
  deriving DecidableEq, Repr

/-- Read one instruction from the front of a list of bytes and give back the rest: the opcode byte selects the
instruction and its length (R74, R75); a 16-bit operand has its low byte first (R72). -/
def decode : List Byte → Except DecodeError (Instr × List Byte)
  | [] => .error .empty
  | op :: rest =>
    match opForm op with
    | none => .error (.unsupportedOpcode op)
    | some (.one i) => .ok (i, rest)
    | some (.two f) =>
      match rest with
      | b :: rest => .ok (f b, rest)
      | [] => .error (.truncated op)
    | some (.three f) =>
      match rest with
      | lo :: hi :: rest => .ok (f (joinBytes hi lo), rest)
      | _ => .error (.truncated op)

/-- The instruction at the front of a list of bytes, if there is one. -/
def decodeInstr (bytes : List Byte) : Option Instr :=
  match decode bytes with
  | .ok (i, _) => some i
  | .error _ => none

/-- The three bytes of a word as the opcode table numbers its bits: byte 0 in bits 7 to 0, byte 1 in bits 15 to 8,
byte 2 in bits 23 to 16; every bit from `nbits` up is 0 (30_encoding.md R71). -/
def tableBytes (nbits w : Nat) : List Byte :=
  let v := w % 2 ^ nbits
  [BitVec.ofNat 8 v, BitVec.ofNat 8 (v / 256), BitVec.ofNat 8 (v / 65536)]

/-- The instruction this decoder reads from a word of the opcode table. -/
def decodeTableWord (nbits w : Nat) : Option Instr := decodeInstr (tableBytes nbits w)

/-- The two operand bytes of a 16-bit operand, low byte first (R71, R72). -/
def addrBytes (a : Addr) : List Byte := [lo8 a, hi8 a]

/-- The bytes of an instruction (R71, R76). -/
def encode : Instr → List Byte
  | .ldaImm v => [0xA9, v]
  | .ldaZp z => [0xA5, z]
  | .ldaZpX z => [0xB5, z]
  | .ldaAbs a => 0xAD :: addrBytes a
  | .ldaAbsX a => 0xBD :: addrBytes a
  | .ldaAbsY a => 0xB9 :: addrBytes a
  | .ldaIndX z => [0xA1, z]
  | .ldaIndY z => [0xB1, z]
  | .ldxImm v => [0xA2, v]
  | .ldxZp z => [0xA6, z]
  | .ldxZpY z => [0xB6, z]
  | .ldxAbs a => 0xAE :: addrBytes a
  | .ldxAbsY a => 0xBE :: addrBytes a
  | .ldyImm v => [0xA0, v]
  | .ldyZp z => [0xA4, z]
  | .ldyZpX z => [0xB4, z]
  | .ldyAbs a => 0xAC :: addrBytes a
  | .ldyAbsX a => 0xBC :: addrBytes a
  | .staZp z => [0x85, z]
  | .staZpX z => [0x95, z]
  | .staAbs a => 0x8D :: addrBytes a
  | .staAbsX a => 0x9D :: addrBytes a
  | .staAbsY a => 0x99 :: addrBytes a
  | .staIndX z => [0x81, z]
  | .staIndY z => [0x91, z]
  | .stxZp z => [0x86, z]
  | .stxZpY z => [0x96, z]
  | .stxAbs a => 0x8E :: addrBytes a
  | .styZp z => [0x84, z]
  | .styZpX z => [0x94, z]
  | .styAbs a => 0x8C :: addrBytes a
  | .tax => [0xAA]
  | .tay => [0xA8]
  | .txa => [0x8A]
  | .tya => [0x98]
  | .tsx => [0xBA]
  | .txs => [0x9A]
  | .adcImm v => [0x69, v]
  | .adcZp z => [0x65, z]
  | .adcZpX z => [0x75, z]
  | .adcAbs a => 0x6D :: addrBytes a
  | .adcAbsX a => 0x7D :: addrBytes a
  | .adcAbsY a => 0x79 :: addrBytes a
  | .adcIndX z => [0x61, z]
  | .adcIndY z => [0x71, z]
  | .sbcImm v => [0xE9, v]
  | .sbcZp z => [0xE5, z]
  | .sbcZpX z => [0xF5, z]
  | .sbcAbs a => 0xED :: addrBytes a
  | .sbcAbsX a => 0xFD :: addrBytes a
  | .sbcAbsY a => 0xF9 :: addrBytes a
  | .sbcIndX z => [0xE1, z]
  | .sbcIndY z => [0xF1, z]
  | .andImm v => [0x29, v]
  | .andZp z => [0x25, z]
  | .andZpX z => [0x35, z]
  | .andAbs a => 0x2D :: addrBytes a
  | .andAbsX a => 0x3D :: addrBytes a
  | .andAbsY a => 0x39 :: addrBytes a
  | .andIndX z => [0x21, z]
  | .andIndY z => [0x31, z]
  | .oraImm v => [0x09, v]
  | .oraZp z => [0x05, z]
  | .oraZpX z => [0x15, z]
  | .oraAbs a => 0x0D :: addrBytes a
  | .oraAbsX a => 0x1D :: addrBytes a
  | .oraAbsY a => 0x19 :: addrBytes a
  | .oraIndX z => [0x01, z]
  | .oraIndY z => [0x11, z]
  | .eorImm v => [0x49, v]
  | .eorZp z => [0x45, z]
  | .eorZpX z => [0x55, z]
  | .eorAbs a => 0x4D :: addrBytes a
  | .eorAbsX a => 0x5D :: addrBytes a
  | .eorAbsY a => 0x59 :: addrBytes a
  | .eorIndX z => [0x41, z]
  | .eorIndY z => [0x51, z]
  | .bitZp z => [0x24, z]
  | .bitAbs a => 0x2C :: addrBytes a
  | .aslAcc => [0x0A]
  | .aslZp z => [0x06, z]
  | .aslZpX z => [0x16, z]
  | .aslAbs a => 0x0E :: addrBytes a
  | .aslAbsX a => 0x1E :: addrBytes a
  | .lsrAcc => [0x4A]
  | .lsrZp z => [0x46, z]
  | .lsrZpX z => [0x56, z]
  | .lsrAbs a => 0x4E :: addrBytes a
  | .lsrAbsX a => 0x5E :: addrBytes a
  | .rolAcc => [0x2A]
  | .rolZp z => [0x26, z]
  | .rolZpX z => [0x36, z]
  | .rolAbs a => 0x2E :: addrBytes a
  | .rolAbsX a => 0x3E :: addrBytes a
  | .rorAcc => [0x6A]
  | .rorZp z => [0x66, z]
  | .rorZpX z => [0x76, z]
  | .rorAbs a => 0x6E :: addrBytes a
  | .rorAbsX a => 0x7E :: addrBytes a
  | .incZp z => [0xE6, z]
  | .incZpX z => [0xF6, z]
  | .incAbs a => 0xEE :: addrBytes a
  | .incAbsX a => 0xFE :: addrBytes a
  | .decZp z => [0xC6, z]
  | .decZpX z => [0xD6, z]
  | .decAbs a => 0xCE :: addrBytes a
  | .decAbsX a => 0xDE :: addrBytes a
  | .inx => [0xE8]
  | .iny => [0xC8]
  | .dex => [0xCA]
  | .dey => [0x88]
  | .cmpImm v => [0xC9, v]
  | .cmpZp z => [0xC5, z]
  | .cmpZpX z => [0xD5, z]
  | .cmpAbs a => 0xCD :: addrBytes a
  | .cmpAbsX a => 0xDD :: addrBytes a
  | .cmpAbsY a => 0xD9 :: addrBytes a
  | .cmpIndX z => [0xC1, z]
  | .cmpIndY z => [0xD1, z]
  | .cpxImm v => [0xE0, v]
  | .cpxZp z => [0xE4, z]
  | .cpxAbs a => 0xEC :: addrBytes a
  | .cpyImm v => [0xC0, v]
  | .cpyZp z => [0xC4, z]
  | .cpyAbs a => 0xCC :: addrBytes a
  | .bcc d => [0x90, d]
  | .bcs d => [0xB0, d]
  | .beq d => [0xF0, d]
  | .bne d => [0xD0, d]
  | .bmi d => [0x30, d]
  | .bpl d => [0x10, d]
  | .bvc d => [0x50, d]
  | .bvs d => [0x70, d]
  | .jmpAbs a => 0x4C :: addrBytes a
  | .jmpInd p => 0x6C :: addrBytes p
  | .jsrAbs a => 0x20 :: addrBytes a
  | .rts => [0x60]
  | .brk => [0x00]
  | .rti => [0x40]
  | .clc => [0x18]
  | .sec => [0x38]
  | .cld => [0xD8]
  | .sed => [0xF8]
  | .cli => [0x58]
  | .sei => [0x78]
  | .clv => [0xB8]
  | .pha => [0x48]
  | .php => [0x08]
  | .pla => [0x68]
  | .plp => [0x28]
  | .nop => [0xEA]

/-- The opcode byte of an instruction (R76). -/
def Instr.opcode (i : Instr) : Byte := (encode i).headD 0

end Sys2Proof
end

