-- ==== Sys2Proof/Config.lean ====
section
/-! DEFINITION. The free values: what the spec leaves without a value although the machine goes on. Each is an
uninterpreted constant, so nothing can be proved of any value of it. The parameters the spec does give a value
are definitions beside their use: `unlistedByte` (MEM0, Machine/Memory.lean), `impliedDummyAddr`
(IMPLIED_DUMMY_ADDR, Machine/Ops.lean), `serviceExtraCycles` (SERVICE_EXTRA_CYCLES, Machine/Ops.lean),
`State.powerOn` (POWER_ON, Machine/State.lean). -/

namespace Sys2Proof

/-- Which of the two decimal operations asks for a free value (42_arithmetic.md R142, R145). -/
inductive DecimalOp where
  | add
  | sub
  deriving DecidableEq, Repr

/-- The V flag after a decimal ADC or SBC: "V is undefined architecturally" (42_arithmetic.md R142;
93_implementation_defined.md U1: `DECIMAL_V`). The second argument numbers the use, so that two uses are
unrelated; the rest are the accumulator, the memory byte and the carry in. DESIGN CHOICE, log 12: free, where the
spec's D10 allows the binary rule. -/
opaque Config.decimalV : DecimalOp → Nat → Byte → Byte → Bool → Bool

/-- The result byte of a decimal ADC or SBC when an operand has a nibble above 9: `DECIMAL_INVALID`, "any value"
(42_arithmetic.md R142; 93_implementation_defined.md U2). DESIGN CHOICE, log 13. -/
opaque Config.decimalInvalidResult : DecimalOp → Nat → Byte → Byte → Bool → Byte

/-- The carry out of a decimal ADC or SBC when an operand has a nibble above 9: `DECIMAL_INVALID`, "any value"
(42_arithmetic.md R142; 93_implementation_defined.md U2). DESIGN CHOICE, log 13. -/
opaque Config.decimalInvalidCarry : DecimalOp → Nat → Byte → Byte → Bool → Bool

end Sys2Proof
end

