-- ==== Sys2Proof/Machine/State.lean ====
section
/-! DEFINITION. The state of the core and of the memory array (10_state.md R10 to R27; 20_memory.md R40, R42), its
power-on and reset values (R29), and the reasons a step can stop. -/

namespace Sys2Proof.Machine

open Sys2Proof

/-- The memory array as (address, byte) pairs in canonical form (`Memory.wf`, Machine/Memory.lean): addresses
strictly rising, all below 65536, and no pair whose byte is what an unlisted address reads as (20_memory.md R40,
R42). -/
abbrev Memory := List Host.Cell

/-- One record of the bus trace (20_memory.md R60): `R(a, v)`, `W(a, v)` or `-`. -/
inductive BusCycle where
  | read (a : Addr) (v : Byte)
  | write (a : Addr) (v : Byte)
  | internal
  deriving DecidableEq, Repr

/-- The complete state (10_state.md R27: "The complete state of the core is rules R10 to R26", and the memory
array). -/
structure State where
  /-- accumulator (R10) -/
  a : Byte
  /-- index register X (R10) -/
  x : Byte
  /-- index register Y (R10) -/
  y : Byte
  /-- stack pointer; the stack address is `0x0100 | SP` (R11) -/
  sp : Byte
  /-- program counter (R13) -/
  pc : Addr
  /-- OPCODE, the most recently fetched opcode byte (R14) -/
  opcode : Byte
  /-- carry (R15) -/
  flagC : Bool
  /-- zero (R15) -/
  flagZ : Bool
  /-- interrupt disable (R15) -/
  flagI : Bool
  /-- decimal (R15) -/
  flagD : Bool
  /-- overflow (R15) -/
  flagV : Bool
  /-- negative (R15) -/
  flagN : Bool
  /-- cycle_count, an unbounded natural number (R20; DESIGN CHOICE, the spec's D1, log 1) -/
  cycleCount : Nat
  /-- irq_pending (R21) -/
  irqPending : Bool
  /-- nmi_pending (R22) -/
  nmiPending : Bool
  /-- interrupt_this_cycle (R23) -/
  interruptThisCycle : Bool
  /-- interrupt_prev_cycle, the latch a step reads (R24) -/
  interruptPrevCycle : Bool
  /-- address_bus (R25) -/
  addressBus : Addr
  /-- data_bus (R25) -/
  dataBus : Byte
  /-- rw_bus: true = read, false = write (R25) -/
  rwBus : Bool
  /-- ready_bus: every toggle asks the memory to act once (R25) -/
  readyBus : Bool
  /-- true after a fatal condition until the next reset (R26) -/
  halted : Bool
  /-- the 65 536-byte array the memory collaborator owns (20_memory.md R40, R42) -/
  mem : Memory
  /-- the bus trace since the last reset, NEWEST record first (20_memory.md R60) -/
  trace : List BusCycle
  /-- the model's own field: how many free values have been used (Config.lean; log 12) -/
  freeIndex : Nat
  deriving DecidableEq, Repr

/-- Why a step stops the machine. -/
inductive Fault where
  /-- `UnsupportedOpcode(op)` (60_exceptions.md R241; 30_encoding.md R80), raised by `step` after the opcode fetch.
  `surfaced` is the state in which the condition surfaces to the caller: PC one past the offending byte, OPCODE
  holding it, one cycle counted, the core halted. It is the spec's own fatal condition, so neither safe nor
  unsafe: the hardware stops here too. -/
  | unsupportedOpcode (op : Byte) (surfaced : State)
  deriving DecidableEq, Repr

/-- Why a step has no meaning. -/
inductive Refusal where
  /-- an instruction the model gives no meaning; raised by no arm of `exec` in this model. Safe. -/
  | notModelled (mnemonic : String)
  /-- `step()` after a fatal condition and before the next `reset()`: "refused, with no state change"
  (60_exceptions.md R243), raised by `step`. Safe: refusing errs toward unprovable (the spec's D9, log 11). -/
  | halted
  deriving DecidableEq, Repr

/-- What a meaning or a step answers. -/
abbrev Result := Host.Outcome State Fault Refusal

/-- Power-on, before the first `reset()`: `POWER_ON`, all registers zero and all Booleans false but `rw_bus`, over a
launch memory that lists nothing (10_state.md R29, right column; 70_reset_and_hazards.md R272). DESIGN CHOICE, the
spec's D2, log 2. -/
def State.powerOn : State where
  a := 0
  x := 0
  y := 0
  sp := 0
  pc := 0
  opcode := 0
  flagC := false
  flagZ := false
  flagI := false
  flagD := false
  flagV := false
  flagN := false
  cycleCount := 0
  irqPending := false
  nmiPending := false
  interruptThisCycle := false
  interruptPrevCycle := false
  addressBus := 0
  dataBus := 0
  rwBus := true
  readyBus := false
  halted := false
  mem := []
  trace := []
  freeIndex := 0

/-- The machine right after `reset()` on the power-on state (10_state.md R29, left column; 70_reset_and_hazards.md
R270): SP = 0xFD, I = 1, PC from the reset vector, which over the launch memory is 0x0000; the bus cells show the read
of 0xFFFD. `State.hostReset_powerOn` (Laws/Step.lean) proves that the reset procedure gives this state. -/
def State.reset : State where
  a := 0
  x := 0
  y := 0
  sp := 0xFD
  pc := 0
  opcode := 0
  flagC := false
  flagZ := false
  flagI := true
  flagD := false
  flagV := false
  flagN := false
  cycleCount := 0
  irqPending := false
  nmiPending := false
  interruptThisCycle := false
  interruptPrevCycle := false
  addressBus := 0xFFFD
  dataBus := 0
  rwBus := true
  readyBus := false
  halted := false
  mem := []
  trace := []
  freeIndex := 0

end Sys2Proof.Machine
end

