-- ==== Sys2Proof/Machine/Memory.lean ====
section
/-! DEFINITION. The memory array as plain data: what an unlisted address reads as, reading and writing one byte,
and the canonical form (20_memory.md R40, R42 to R45, R50). -/

namespace Sys2Proof.Machine

open Sys2Proof

/-- What an address that is not listed reads as: the launch contents `MEM0` (20_memory.md R42; 00_scope.md R7).
DESIGN CHOICE, log 4: the spec's D17 leaves MEM0 an argument and takes 0x00 in its own examples. -/
def unlistedByte : Byte := 0

/-- Byte `a` of the array (R43). -/
def Memory.get : Memory → Nat → Byte
  | [], _ => unlistedByte
  | (k, w) :: m, a => if k = a then w else Memory.get m a

/-- Forget every cell at `a`. -/
def Memory.erase (m : Memory) (a : Nat) : Memory := m.filter (fun c => c.1 != a)

/-- Put a cell in its place among rising addresses. -/
def Memory.insert (a : Nat) (v : Byte) : Memory → Memory
  | [] => [(a, v)]
  | (k, w) :: m => if a < k then (a, v) :: (k, w) :: m else (k, w) :: Memory.insert a v m

/-- Store byte `v` at `a`: "No other byte changes" (R44). Writing what an unlisted address reads as removes the cell,
so the canonical form is kept (Laws/Memory.lean). -/
def Memory.set (m : Memory) (a : Nat) (v : Byte) : Memory :=
  if v = unlistedByte then m.erase a else Memory.insert a v (m.erase a)

/-- The canonical form of the cells from address `lo` up: strictly rising, below 65536, none equal to what an
unlisted address reads as. -/
def Memory.wfFrom : Nat → Memory → Bool
  | _, [] => true
  | lo, (k, w) :: m => decide (lo ≤ k) && decide (k < 65536) && decide (w ≠ unlistedByte) && Memory.wfFrom (k + 1) m

/-- The canonical form, in which equal memories are equal lists. -/
def Memory.wf (m : Memory) : Bool := Memory.wfFrom 0 m

/-- `Peek(a)`: byte `a` of the array, with no cycle (20_memory.md R50). Also the byte a read cycle at `a` samples. -/
def State.peek (s : State) (a : Addr) : Byte := s.mem.get a.toNat

/-- `Poke(a, v)`: store byte `v` at `a`, with no cycle and no bus activity (20_memory.md R50). -/
def State.poke (s : State) (a : Addr) (v : Byte) : State := { s with mem := s.mem.set a.toNat v }

end Sys2Proof.Machine
end

