-- ==== Sys2Proof/Machine/Ops.lean ====
section
/-! DEFINITION. The named operations over registers, the bus and the stack: register writes, the cycle primitives
(20_memory.md R46 to R49), fetching (40_step_and_addressing.md R90, R91, R95), Push and Pull (10_state.md R12),
taking an interrupt or BRK (47_system_flags_stack.md R211; 60_exceptions.md R249, R250) and returning from one
(47_system_flags_stack.md R212). SetNZ and the arithmetic flags are in Machine/Flags.lean. -/

namespace Sys2Proof.Machine

open Sys2Proof

/-! Register writes: "`r <- v` writes register or flag r" (00_scope.md R8). -/

def State.setA (s : State) (v : Byte) : State := { s with a := v }
def State.setX (s : State) (v : Byte) : State := { s with x := v }
def State.setY (s : State) (v : Byte) : State := { s with y := v }
def State.setSp (s : State) (v : Byte) : State := { s with sp := v }
def State.setPc (s : State) (v : Addr) : State := { s with pc := v }
def State.setOpcode (s : State) (v : Byte) : State := { s with opcode := v }
def State.setC (s : State) (b : Bool) : State := { s with flagC := b }
def State.setZ (s : State) (b : Bool) : State := { s with flagZ := b }
def State.setI (s : State) (b : Bool) : State := { s with flagI := b }
def State.setD (s : State) (b : Bool) : State := { s with flagD := b }
def State.setV (s : State) (b : Bool) : State := { s with flagV := b }
def State.setN (s : State) (b : Bool) : State := { s with flagN := b }
def State.setIrq (s : State) (b : Bool) : State := { s with irqPending := b }
def State.setNmi (s : State) (b : Bool) : State := { s with nmiPending := b }
def State.setPrev (s : State) (b : Bool) : State := { s with interruptPrevCycle := b }
def State.setHalted (s : State) (b : Bool) : State := { s with halted := b }

/-- Note that a free value has been used, so that the next one is another (log 12). -/
def State.useFree (s : State) : State := { s with freeIndex := s.freeIndex + 1 }

/-! The bus and the cycles. -/

/-- Steps 1 to 5 of a read cycle (20_memory.md R46, R43): the address and read/write cells are driven, `ready_bus`
toggles, the memory places `mem[a]` on the data bus. No cycle is counted (this alone is `BusRead` of
70_reset_and_hazards.md R270). -/
def State.busRead (s : State) (a : Addr) : State :=
  { s with addressBus := a, rwBus := true, readyBus := !s.readyBus, dataBus := s.peek a }

/-- Steps 1 to 5 of a write cycle (20_memory.md R47, R44): the cells are driven, `ready_bus` toggles, the memory
stores the data bus at the address bus. -/
def State.busWrite (s : State) (a : Addr) (v : Byte) : State :=
  { s with addressBus := a, rwBus := false, dataBus := v, readyBus := !s.readyBus, mem := s.mem.set a.toNat v }

/-- `EndCycle()` (20_memory.md R49), which also puts the cycle's record on the bus trace (R60): the counter, then
`prev <- this`, then `this <- nmi | (irq & ~I)` with the values of this moment. -/
def State.endCycle (s : State) (record : BusCycle) : State :=
  { s with
    cycleCount := s.cycleCount + 1
    interruptPrevCycle := s.interruptThisCycle
    interruptThisCycle := s.nmiPending || (s.irqPending && !s.flagI)
    trace := record :: s.trace }

/-- `MemRead(a, 1)`: the state after one counted read cycle at `a` (20_memory.md R46). The byte it returns is
`s.peek a`, "mem[a'] as it was at the start of the cycle", and stands on `dataBus` afterwards. -/
def State.memRead (s : State) (a : Addr) : State := (s.busRead a).endCycle (.read a (s.peek a))

/-- `MemWrite(a, 1, v)`: one counted write cycle (20_memory.md R47). -/
def State.memWrite (s : State) (a : Addr) (v : Byte) : State := (s.busWrite a v).endCycle (.write a v)

/-- `Internal()`: `EndCycle()` and nothing else (20_memory.md R48). Where the internal cycles of an instruction stand
is the spec's D3; DESIGN CHOICE, log 5. -/
def State.internal (s : State) : State := s.endCycle .internal

/-! Fetching. -/

/-- `FetchByte()` (40_step_and_addressing.md R91): a read cycle at the live PC, then PC advances. The byte fetched
is `s.peek s.pc`. -/
def State.fetchByte (s : State) : State := (s.memRead s.pc).setPc (s.pc + 1)

/-- Cycle 1 of every step (40_step_and_addressing.md R90): the opcode byte goes to OPCODE, PC advances. -/
def State.fetchOpcode (s : State) : State := s.fetchByte.setOpcode (s.peek s.pc)

/-- The bytes the decoder may need, once the opcode has been fetched: OPCODE, and the two bytes from the live PC on
(30_encoding.md R71), which no cycle before their fetch can change (70_reset_and_hazards.md R281). -/
def State.instrBytes (s : State) : List Byte := [s.opcode, s.peek s.pc, s.peek (s.pc + 1)]

/-- `IMPLIED_DUMMY_ADDR = (PC + 1) mod 65536`, PC the live register (40_step_and_addressing.md R95). DESIGN CHOICE,
the spec's D4, log 6. -/
def impliedDummyAddr (pc : Addr) : Addr := pc + 1

/-- `DummyNext()`: the dummy read of the one-byte instructions, its value discarded (40_step_and_addressing.md
R95). -/
def State.dummyNext (s : State) : State := s.memRead (impliedDummyAddr s.pc)

/-! The stack. -/

/-- The effective stack address `0x0100 | SP` (10_state.md R11). -/
def stackAddr (sp : Byte) : Addr := joinBytes 0x01 sp

/-- `Push(v)`: write at the stack address, then `SP <- SP - 1` (10_state.md R12). -/
def State.push (s : State) (v : Byte) : State := (s.memWrite (stackAddr s.sp) v).setSp (s.sp - 1)

/-- The byte `Pull()` returns: the one at the stack address after `SP <- SP + 1` (10_state.md R12). -/
def State.pulled (s : State) : Byte := s.peek (stackAddr (s.sp + 1))

/-- The state after `Pull()`: `SP <- SP + 1`, then a read cycle at the stack address (10_state.md R12). -/
def State.pull (s : State) : State := (s.setSp (s.sp + 1)).memRead (stackAddr (s.sp + 1))

/-! The flag image. -/

/-- `Pack(b)`: the 8-bit image of the flags, bit 4 = b, bit 5 = 1 (10_state.md R17); written from bit 7 down. -/
def State.pack (s : State) (b : Bool) : Byte :=
  BitVec.ofBool s.flagN ++ BitVec.ofBool s.flagV ++ 1#1 ++ BitVec.ofBool b ++ BitVec.ofBool s.flagD ++
    BitVec.ofBool s.flagI ++ BitVec.ofBool s.flagZ ++ BitVec.ofBool s.flagC

/-- `Unpack(p)`: the six flags from p; bits 4 and 5 are discarded (10_state.md R18). -/
def State.unpack (s : State) (p : Byte) : State :=
  (((((s.setC (p.getLsbD 0)).setZ (p.getLsbD 1)).setI (p.getLsbD 2)).setD (p.getLsbD 3)).setV (p.getLsbD 6)).setN
    (p.getLsbD 7)

/-! Taking an exception and returning from one. -/

/-- Run `n` internal cycles. -/
def State.internals : Nat → State → State
  | 0, s => s
  | n + 1, s => State.internals n s.internal

/-- Load PC from a vector: two read cycles, low byte first (20_memory.md R52; 60_exceptions.md R261). -/
def State.loadVector (s : State) (vector : Addr) : State :=
  ((s.memRead vector).memRead (vector + 1)).setPc (joinBytes (s.peek (vector + 1)) (s.peek vector))

/-- TAKING AN EXCEPTION, `BrkSequence(b, vector)` (47_system_flags_stack.md R211), shared by BRK, IRQ and NMI: one
internal cycle; PC + 1; push PC high, PC low and the flag image with bit 4 = b, I not yet set; `I <- 1`; load PC from
the vector. -/
def State.brkSequence (s : State) (b : Bool) (vector : Addr) : State :=
  let s := s.internal
  let s := s.setPc (s.pc + 1)
  let s := (s.push (hi8 s.pc)).push (lo8 s.pc)
  let s := s.push (s.pack b)
  (s.setI true).loadVector vector

/-- THE RETURN FROM AN EXCEPTION, RTI after its opcode fetch (47_system_flags_stack.md R212): two internal cycles;
pull the flag image and write the six flags at once; pull PC low, then PC high; no adjustment. -/
def State.returnFromInterrupt (s : State) : State :=
  let s := s.internal.internal
  let s := s.pull.unpack s.pulled
  let lo := s.pulled
  let s := s.pull
  s.pull.setPc (joinBytes s.pulled lo)

/-- The IRQ/BRK vector (20_memory.md R41). -/
def irqVector : Addr := 0xFFFE

/-- The NMI vector (20_memory.md R41). -/
def nmiVector : Addr := 0xFFFA

/-- The reset vector (20_memory.md R41). -/
def resetVector : Addr := 0xFFFC

/-- `SERVICE_EXTRA_CYCLES`, the internal cycles in front of the BRK sequence of a service (60_exceptions.md R250).
DESIGN CHOICE, the spec's D7, log 9. -/
def serviceExtraCycles : Nat := 0

/-- `Service(vector)` with `extra` leading internal cycles (60_exceptions.md R250): undo the PC + 1 of the BRK
sequence, run it with bit 4 = 0, clear `interrupt_prev_cycle`. OPCODE is not written (D7). -/
def State.service (extra : Nat) (s : State) (vector : Addr) : State :=
  let s := State.internals extra s
  ((s.setPc (s.pc - 1)).brkSequence false vector).setPrev false

/-- `PollAndService()`, once, after the instruction's last cycle (60_exceptions.md R249; 40_step_and_addressing.md
R93): NMI first, and it is cleared; then IRQ, which stays pending. With the latch true and neither pending nothing
happens (DESIGN CHOICE, the spec's D15, log 19). -/
def State.pollAndService (s : State) : State :=
  if s.interruptPrevCycle then
    if s.nmiPending then (s.service serviceExtraCycles nmiVector).setNmi false
    else if s.irqPending then s.service serviceExtraCycles irqVector
    else s
  else s

end Sys2Proof.Machine
end

