-- ==== Sys2Proof/Machine/Flags.lean ====
section
/-! DEFINITION. Flags and the arithmetic unit: SetNZ (10_state.md R16; Pack and Unpack are in Machine/Ops.lean),
binary and decimal addition and subtraction (42_arithmetic.md R141, R142, R144, R145), the four shift functions
(44_shift_incdec.md R160), Compare (45_compare.md R180) and the flags of BIT (43_logic_bit.md R153). -/

namespace Sys2Proof.Machine

open Sys2Proof

/-- A flag used as a number is 0 or 1 (00_scope.md R8). -/
def bit (b : Bool) : Nat := b.toNat

/-- `SetNZ(v)`: Z is whether v is zero, N is bit 7 (10_state.md R16). -/
def State.setNZ (s : State) (v : Byte) : State := (s.setZ (v == 0)).setN v.msb

/-- What the arithmetic unit gives back: the result byte, carry and overflow. -/
structure AluOut where
  value    : Byte
  carry    : Bool
  overflow : Bool
  deriving DecidableEq, Repr

/-- `AddBinary(a, m, c)` (42_arithmetic.md R141). -/
def addBinary (a m : Byte) (c : Bool) : AluOut :=
  let s := a.toNat + m.toNat + bit c
  let r := BitVec.ofNat 8 s
  { value := r, carry := decide (255 < s), overflow := (a ^^^ r).msb && !(a ^^^ m).msb }

/-- `SubBinary(a, m, c)` (42_arithmetic.md R144): the difference as an integer, then wrapped. -/
def subBinary (a m : Byte) (c : Bool) : AluOut :=
  let d : Int := (a.toNat : Int) - m.toNat - (1 - bit c)
  let r := BitVec.ofInt 8 d
  { value := r, carry := decide (0 ≤ d), overflow := (a ^^^ m).msb && (a ^^^ r).msb }

/-- The upper and lower decimal digits of a byte are both at most 9 (R142: "valid BCD"). -/
def validBcd (b : Byte) : Bool := decide (b.toNat / 16 ≤ 9) && decide (b.toNat % 16 ≤ 9)

/-- `dec(b) = 10 * b[7:4] + b[3:0]` (R142). -/
def decValue (b : Byte) : Nat := 10 * (b.toNat / 16) + b.toNat % 16

/-- `bcd(t) = ((t div 10) << 4) | (t mod 10)`, t in 0 to 99 (R142). -/
def bcdByte (t : Nat) : Byte := BitVec.ofNat 8 (16 * (t / 10) + t % 10)

/-- `AddDecimal(a, m, c)` (42_arithmetic.md R142); `k` numbers the use of the free values. V is always free (log 12);
the result and the carry are free when a nibble is above 9 (log 13). -/
def addDecimal (k : Nat) (a m : Byte) (c : Bool) : AluOut :=
  if validBcd a && validBcd m then
    let t := decValue a + decValue m + bit c
    { value := bcdByte (t % 100), carry := decide (99 < t), overflow := Config.decimalV .add k a m c }
  else
    { value := Config.decimalInvalidResult .add k a m c
      carry := Config.decimalInvalidCarry .add k a m c
      overflow := Config.decimalV .add k a m c }

/-- `SubDecimal(a, m, c)` (42_arithmetic.md R145): "symmetric to ADC in decimal", read as the spec's D10 reads it
(DESIGN CHOICE, log 14); free values as in `addDecimal`. -/
def subDecimal (k : Nat) (a m : Byte) (c : Bool) : AluOut :=
  if validBcd a && validBcd m then
    let t : Int := (decValue a : Int) - decValue m - (1 - bit c)
    { value := bcdByte (if t < 0 then t + 100 else t).toNat
      carry := decide (0 ≤ t)
      overflow := Config.decimalV .sub k a m c }
  else
    { value := Config.decimalInvalidResult .sub k a m c
      carry := Config.decimalInvalidCarry .sub k a m c
      overflow := Config.decimalV .sub k a m c }

/-- Write an arithmetic result: `A <- r; C <- c; V <- v; SetNZ(r)` (R140, R143). -/
def State.writeAlu (s : State) (r : AluOut) : State := (((s.setA r.value).setC r.carry).setV r.overflow).setNZ r.value

/-- What ADC does once M is read (R140): D selects the addition. -/
def State.adc (s : State) (m : Byte) : State :=
  if s.flagD then s.useFree.writeAlu (addDecimal s.freeIndex s.a m s.flagC)
  else s.writeAlu (addBinary s.a m s.flagC)

/-- What SBC does once M is read (R143): D selects the subtraction. -/
def State.sbc (s : State) (m : Byte) : State :=
  if s.flagD then s.useFree.writeAlu (subDecimal s.freeIndex s.a m s.flagC)
  else s.writeAlu (subBinary s.a m s.flagC)

/-- `Compare(r, m)`: C, Z and N from `R − M` without storing it (45_compare.md R180). -/
def State.compare (s : State) (r m : Byte) : State :=
  ((s.setC (decide (m.toNat ≤ r.toNat))).setZ (r == m)).setN (r - m).msb

/-- BIT's flags: "Z ← (A & M) == 0; N ← bit7(M); V ← bit6(M)" (43_logic_bit.md R153). -/
def State.bitTest (s : State) (m : Byte) : State :=
  ((s.setZ (s.a &&& m == 0)).setN (m.getLsbD 7)).setV (m.getLsbD 6)

/-- `Asl(v)`: bit 7 -> C, bit 0 <- 0 (44_shift_incdec.md R160). -/
def asl (v : Byte) : Byte × Bool := (v <<< 1, v.getLsbD 7)

/-- `Lsr(v)`: bit 0 -> C, bit 7 <- 0 (R160). -/
def lsr (v : Byte) : Byte × Bool := (v >>> 1, v.getLsbD 0)

/-- `Rol(v, c)`: bit 7 -> C, old C -> bit 0 (R160). -/
def rol (v : Byte) (c : Bool) : Byte × Bool := (v.extractLsb' 0 7 ++ BitVec.ofBool c, v.getLsbD 7)

/-- `Ror(v, c)`: bit 0 -> C, old C -> bit 7 (R160). -/
def ror (v : Byte) (c : Bool) : Byte × Bool := (BitVec.ofBool c ++ v.extractLsb' 1 7, v.getLsbD 0)

/-- Write a shift's carry and the N and Z of its result byte (R161 to R168). -/
def State.shiftFlags (s : State) (r : Byte × Bool) : State := (s.setC r.2).setNZ r.1

end Sys2Proof.Machine
end

