-- ==== Sys2Proof/Machine/Operands.lean ====
section
/-! DEFINITION. The addressing-mode resolver (40_step_and_addressing.md R94 to R108) and the three access patterns
that follow it (R109; 44_shift_incdec.md R174). Implied and Accumulator have no effective address (R95, R96) and
Relative is the branch rule's own (R107; Machine/Branch.lean). -/

namespace Sys2Proof.Machine

open Sys2Proof

/-- `UNCOND`: the store and read-modify-write opcodes whose indexed dummy read is unconditional (30_encoding.md
R79). -/
def uncond (op : Byte) : Bool :=
  op == 0x1E || op == 0x3E || op == 0x5E || op == 0x7E || op == 0xDE || op == 0xFE || op == 0x9D || op == 0x99
    || op == 0x91

/-- `cross`: indexing carries out of the low byte of the base (R108). -/
def pageCross (base : Addr) (idx : Byte) : Bool := decide (255 < (lo8 base).toNat + idx.toNat)

/-- The address of the indexed dummy read, `(base & 0xFF00) | lo8(EA)` (R108). When no page is crossed the address is
the spec's D6; DESIGN CHOICE, log 8. -/
def indexDummyAddr (base : Addr) (idx : Byte) : Addr := joinBytes (hi8 base) (lo8 (base + zext16 idx))

/-- `Index(base, idx)`: the effective address `base + idx`, and a dummy read on a page cross or for an opcode of
`UNCOND` (R108). -/
def State.index (s : State) (base : Addr) (idx : Byte) : Addr × State :=
  (base + zext16 idx,
    if pageCross base idx || uncond s.opcode then s.memRead (indexDummyAddr base idx) else s)

/-- The 16-bit pointer whose two bytes are in page zero at `z` and `z + 1`, the sum wrapping modulo 256, low byte
first (R104, R105; 20_memory.md R52). -/
def State.zpPointer (s : State) (z : Byte) : Addr := joinBytes (s.peek (zext16 (z + 1))) (s.peek (zext16 z))

/-- The two read cycles that fetch such a pointer. -/
def State.readZpPointer (s : State) (z : Byte) : State := (s.memRead (zext16 z)).memRead (zext16 (z + 1))

/-- Where JMP indirect reads the target's high byte: the next address inside the pointer's page (R106, the
page-boundary bug). -/
def indirectHighAddr (p : Addr) : Addr := joinBytes (hi8 p) (lo8 p + 1)

/-- `Resolve(mode)`: the effective address and the state after the resolver's cycles, PC past the operand bytes (R94,
R97 to R106). The operand is the instruction's own; the cycles that fetch it read the bytes at the live PC, which in a
step are the same bytes (`Obligations.EncodeOfDecode`; DEDUCED, log 23). The index registers and the pointer bytes are
read in the state the cycle finds. -/
def State.resolve (s : State) : AddrForm → Addr × State
  | .imm _ => (s.pc, s.setPc (s.pc + 1))
  | .zp z => (zext16 z, s.fetchByte)
  | .zpX z => (zext16 (z + s.x), s.fetchByte.memRead (zext16 z))
  | .zpY z => (zext16 (z + s.y), s.fetchByte.memRead (zext16 z))
  | .abs a => (a, s.fetchByte.fetchByte)
  | .absX a => s.fetchByte.fetchByte.index a s.x
  | .absY a => s.fetchByte.fetchByte.index a s.y
  | .indX z => (s.zpPointer (z + s.x), (s.fetchByte.memRead (zext16 z)).readZpPointer (z + s.x))
  | .indY z => (s.fetchByte.readZpPointer z).index (s.zpPointer z) s.y
  | .ind p =>
    (joinBytes (s.peek (indirectHighAddr p)) (s.peek p),
      ((s.fetchByte.fetchByte).memRead p).memRead (indirectHighAddr p))

/-- The byte M a read-type instruction reads (R109): the operand itself in Immediate mode, else the byte at the
effective address. -/
def State.operand (s : State) : AddrForm → Byte
  | .imm v => v
  | f => s.peek (s.resolve f).1

/-- Read-type: `EA = Resolve(mode); M = MemRead(EA, 1)` (R109). -/
def State.readOperand (s : State) (f : AddrForm) : State := (s.resolve f).2.memRead (s.resolve f).1

/-- Store-type: `EA = Resolve(mode); MemWrite(EA, 1, v)` (R109). -/
def State.storeOperand (s : State) (f : AddrForm) (v : Byte) : State := (s.resolve f).2.memWrite (s.resolve f).1 v

/-- RMW-type, with `r` the modified byte: read, dummy write of the unmodified byte, write of the modified one, all at
the effective address (44_shift_incdec.md R174). -/
def State.modifyOperand (s : State) (f : AddrForm) (r : Byte) : State :=
  (((s.resolve f).2.memRead (s.resolve f).1).memWrite (s.resolve f).1 (s.operand f)).memWrite (s.resolve f).1 r

end Sys2Proof.Machine
end

