-- ==== Sys2Proof/Machine/Arithmetic.lean ====
section
/-! DEFINITION. Arithmetic: ADC and SBC, binary and decimal (42_arithmetic.md R140, R143). -/

namespace Sys2Proof.Machine

open Sys2Proof

/-- Read M, then `A <- r; C <- c; V <- v; SetNZ(r)` (R140). -/
def State.adcOperand (s : State) (f : AddrForm) : State := (s.readOperand f).adc (s.operand f)

/-- Read M, then `A <- r; C <- c; V <- v; SetNZ(r)` (R143). -/
def State.sbcOperand (s : State) (f : AddrForm) : State := (s.readOperand f).sbc (s.operand f)

/-- ADC #, opcode 69 (R140, R97). -/
def execAdcImm (v : Byte) (s : State) : Result := .next (s.adcOperand (.imm v))

/-- ADC zp, opcode 65 (R140, R98). -/
def execAdcZp (z : Byte) (s : State) : Result := .next (s.adcOperand (.zp z))

/-- ADC zp,X, opcode 75 (R140, R99). -/
def execAdcZpX (z : Byte) (s : State) : Result := .next (s.adcOperand (.zpX z))

/-- ADC abs, opcode 6D (R140, R101). -/
def execAdcAbs (a : Addr) (s : State) : Result := .next (s.adcOperand (.abs a))

/-- ADC abs,X, opcode 7D (R140, R102). -/
def execAdcAbsX (a : Addr) (s : State) : Result := .next (s.adcOperand (.absX a))

/-- ADC abs,Y, opcode 79 (R140, R103). -/
def execAdcAbsY (a : Addr) (s : State) : Result := .next (s.adcOperand (.absY a))

/-- ADC (zp,X), opcode 61 (R140, R104). -/
def execAdcIndX (z : Byte) (s : State) : Result := .next (s.adcOperand (.indX z))

/-- ADC (zp),Y, opcode 71 (R140, R105). -/
def execAdcIndY (z : Byte) (s : State) : Result := .next (s.adcOperand (.indY z))

/-- SBC #, opcode E9 (R143, R97). -/
def execSbcImm (v : Byte) (s : State) : Result := .next (s.sbcOperand (.imm v))

/-- SBC zp, opcode E5 (R143, R98). -/
def execSbcZp (z : Byte) (s : State) : Result := .next (s.sbcOperand (.zp z))

/-- SBC zp,X, opcode F5 (R143, R99). -/
def execSbcZpX (z : Byte) (s : State) : Result := .next (s.sbcOperand (.zpX z))

/-- SBC abs, opcode ED (R143, R101). -/
def execSbcAbs (a : Addr) (s : State) : Result := .next (s.sbcOperand (.abs a))

/-- SBC abs,X, opcode FD (R143, R102). -/
def execSbcAbsX (a : Addr) (s : State) : Result := .next (s.sbcOperand (.absX a))

/-- SBC abs,Y, opcode F9 (R143, R103). -/
def execSbcAbsY (a : Addr) (s : State) : Result := .next (s.sbcOperand (.absY a))

/-- SBC (zp,X), opcode E1 (R143, R104). -/
def execSbcIndX (z : Byte) (s : State) : Result := .next (s.sbcOperand (.indX z))

/-- SBC (zp),Y, opcode F1 (R143, R105). -/
def execSbcIndY (z : Byte) (s : State) : Result := .next (s.sbcOperand (.indY z))

end Sys2Proof.Machine
end

