-- ==== Sys2Proof/Machine/Branch.lean ====
section
/-! DEFINITION. Branches, jumps, calls and returns (46_branch_jump.md R190 to R202; 40_step_and_addressing.md R106,
R107). The predicates of the branches are the spec's own G4 (log 22); where the internal cycles stand is its D3
(DESIGN CHOICE, log 5). -/

namespace Sys2Proof.Machine

open Sys2Proof

/-- `Branch(pred)` with the predicate's value (R190): the displacement is always fetched; a taken branch costs one
internal cycle, and one more when the target is in another page than the PC after the operand. -/
def State.branch (s : State) (taken : Bool) (d : Byte) : State :=
  let s := s.fetchByte
  let target := s.pc + sext16 d
  if taken then
    (if hi8 s.pc = hi8 target then s.internal else s.internal.internal).setPc target
  else s

/-- `PC <- Resolve(mode)` (R199, R200). -/
def State.jmp (s : State) (f : AddrForm) : State := (s.resolve f).2.setPc (s.resolve f).1

/-- Subroutine call (R201): both operand bytes are fetched (DESIGN CHOICE, the spec's D11, log 15), one internal cycle,
then the address of the call's last byte is pushed, high byte first. -/
def State.jsr (s : State) (a : Addr) : State :=
  let s := s.fetchByte.fetchByte.internal
  let ret := s.pc - 1
  ((s.push (hi8 ret)).push (lo8 ret)).setPc a

/-- Subroutine return (R202): two internal cycles, pull low, pull high, one internal cycle, PC one past the pulled
address. -/
def State.rts (s : State) : State :=
  let s := s.internal.internal
  let lo := s.pulled
  let s := s.pull
  let hi := s.pulled
  s.pull.internal.setPc (joinBytes hi lo + 1)

/-- BCC rel, opcode 90 (R191). -/
def execBcc (d : Byte) (s : State) : Result := .next (s.branch (!s.flagC) d)

/-- BCS rel, opcode B0 (R192). -/
def execBcs (d : Byte) (s : State) : Result := .next (s.branch s.flagC d)

/-- BEQ rel, opcode F0 (R193). -/
def execBeq (d : Byte) (s : State) : Result := .next (s.branch s.flagZ d)

/-- BNE rel, opcode D0 (R194). -/
def execBne (d : Byte) (s : State) : Result := .next (s.branch (!s.flagZ) d)

/-- BMI rel, opcode 30 (R195). -/
def execBmi (d : Byte) (s : State) : Result := .next (s.branch s.flagN d)

/-- BPL rel, opcode 10 (R196). -/
def execBpl (d : Byte) (s : State) : Result := .next (s.branch (!s.flagN) d)

/-- BVC rel, opcode 50 (R197). -/
def execBvc (d : Byte) (s : State) : Result := .next (s.branch (!s.flagV) d)

/-- BVS rel, opcode 70 (R198). -/
def execBvs (d : Byte) (s : State) : Result := .next (s.branch s.flagV d)

/-- JMP abs, opcode 4C (R199, R101). -/
def execJmpAbs (a : Addr) (s : State) : Result := .next (s.jmp (.abs a))

/-- JMP (abs), opcode 6C (R200, R106). -/
def execJmpInd (p : Addr) (s : State) : Result := .next (s.jmp (.ind p))

/-- JSR abs, opcode 20 (R201, R101). -/
def execJsrAbs (a : Addr) (s : State) : Result := .next (s.jsr a)

/-- RTS, opcode 60 (R202). -/
def execRts (s : State) : Result := .next (s.rts)

end Sys2Proof.Machine
end

