-- ==== Sys2Proof/Machine/Compare.lean ====
section
/-! DEFINITION. Compares: CMP, CPX, CPY (45_compare.md R180 to R183). -/

namespace Sys2Proof.Machine

open Sys2Proof

/-- Read M, then `Compare(A, M)` (R181). -/
def State.cmp (s : State) (f : AddrForm) : State := (s.readOperand f).compare s.a (s.operand f)

/-- Read M, then `Compare(X, M)` (R182). -/
def State.cpx (s : State) (f : AddrForm) : State := (s.readOperand f).compare s.x (s.operand f)

/-- Read M, then `Compare(Y, M)` (R183). -/
def State.cpy (s : State) (f : AddrForm) : State := (s.readOperand f).compare s.y (s.operand f)

/-- CMP #, opcode C9 (R181, R97). -/
def execCmpImm (v : Byte) (s : State) : Result := .next (s.cmp (.imm v))

/-- CMP zp, opcode C5 (R181, R98). -/
def execCmpZp (z : Byte) (s : State) : Result := .next (s.cmp (.zp z))

/-- CMP zp,X, opcode D5 (R181, R99). -/
def execCmpZpX (z : Byte) (s : State) : Result := .next (s.cmp (.zpX z))

/-- CMP abs, opcode CD (R181, R101). -/
def execCmpAbs (a : Addr) (s : State) : Result := .next (s.cmp (.abs a))

/-- CMP abs,X, opcode DD (R181, R102). -/
def execCmpAbsX (a : Addr) (s : State) : Result := .next (s.cmp (.absX a))

/-- CMP abs,Y, opcode D9 (R181, R103). -/
def execCmpAbsY (a : Addr) (s : State) : Result := .next (s.cmp (.absY a))

/-- CMP (zp,X), opcode C1 (R181, R104). -/
def execCmpIndX (z : Byte) (s : State) : Result := .next (s.cmp (.indX z))

/-- CMP (zp),Y, opcode D1 (R181, R105). -/
def execCmpIndY (z : Byte) (s : State) : Result := .next (s.cmp (.indY z))

/-- CPX #, opcode E0 (R182, R97). -/
def execCpxImm (v : Byte) (s : State) : Result := .next (s.cpx (.imm v))

/-- CPX zp, opcode E4 (R182, R98). -/
def execCpxZp (z : Byte) (s : State) : Result := .next (s.cpx (.zp z))

/-- CPX abs, opcode EC (R182, R101). -/
def execCpxAbs (a : Addr) (s : State) : Result := .next (s.cpx (.abs a))

/-- CPY #, opcode C0 (R183, R97). -/
def execCpyImm (v : Byte) (s : State) : Result := .next (s.cpy (.imm v))

/-- CPY zp, opcode C4 (R183, R98). -/
def execCpyZp (z : Byte) (s : State) : Result := .next (s.cpy (.zp z))

/-- CPY abs, opcode CC (R183, R101). -/
def execCpyAbs (a : Addr) (s : State) : Result := .next (s.cpy (.abs a))

end Sys2Proof.Machine
end

