-- ==== Sys2Proof/Machine/Logic.lean ====
section
/-! DEFINITION. Logic and bit test: AND, ORA, EOR, BIT (43_logic_bit.md R150 to R153). -/

namespace Sys2Proof.Machine

open Sys2Proof

/-- `A <- v; SetNZ(A)` after the operand has been read: the common end of AND, ORA, EOR (R150 to R152). -/
def State.logicResult (s : State) (f : AddrForm) (v : Byte) : State := ((s.readOperand f).setA v).setNZ v

/-- `A <- A & M; SetNZ(A)` (R150). -/
def State.and (s : State) (f : AddrForm) : State := s.logicResult f (s.a &&& s.operand f)

/-- `A <- A | M; SetNZ(A)` (R151). -/
def State.ora (s : State) (f : AddrForm) : State := s.logicResult f (s.a ||| s.operand f)

/-- `A <- A ^ M; SetNZ(A)` (R152). -/
def State.eor (s : State) (f : AddrForm) : State := s.logicResult f (s.a ^^^ s.operand f)

/-- Read M; Z, N and V from it; no register (R153). -/
def State.bit (s : State) (f : AddrForm) : State := (s.readOperand f).bitTest (s.operand f)

/-- AND #, opcode 29 (R150, R97). -/
def execAndImm (v : Byte) (s : State) : Result := .next (s.and (.imm v))

/-- AND zp, opcode 25 (R150, R98). -/
def execAndZp (z : Byte) (s : State) : Result := .next (s.and (.zp z))

/-- AND zp,X, opcode 35 (R150, R99). -/
def execAndZpX (z : Byte) (s : State) : Result := .next (s.and (.zpX z))

/-- AND abs, opcode 2D (R150, R101). -/
def execAndAbs (a : Addr) (s : State) : Result := .next (s.and (.abs a))

/-- AND abs,X, opcode 3D (R150, R102). -/
def execAndAbsX (a : Addr) (s : State) : Result := .next (s.and (.absX a))

/-- AND abs,Y, opcode 39 (R150, R103). -/
def execAndAbsY (a : Addr) (s : State) : Result := .next (s.and (.absY a))

/-- AND (zp,X), opcode 21 (R150, R104). -/
def execAndIndX (z : Byte) (s : State) : Result := .next (s.and (.indX z))

/-- AND (zp),Y, opcode 31 (R150, R105). -/
def execAndIndY (z : Byte) (s : State) : Result := .next (s.and (.indY z))

/-- ORA #, opcode 09 (R151, R97). -/
def execOraImm (v : Byte) (s : State) : Result := .next (s.ora (.imm v))

/-- ORA zp, opcode 05 (R151, R98). -/
def execOraZp (z : Byte) (s : State) : Result := .next (s.ora (.zp z))

/-- ORA zp,X, opcode 15 (R151, R99). -/
def execOraZpX (z : Byte) (s : State) : Result := .next (s.ora (.zpX z))

/-- ORA abs, opcode 0D (R151, R101). -/
def execOraAbs (a : Addr) (s : State) : Result := .next (s.ora (.abs a))

/-- ORA abs,X, opcode 1D (R151, R102). -/
def execOraAbsX (a : Addr) (s : State) : Result := .next (s.ora (.absX a))

/-- ORA abs,Y, opcode 19 (R151, R103). -/
def execOraAbsY (a : Addr) (s : State) : Result := .next (s.ora (.absY a))

/-- ORA (zp,X), opcode 01 (R151, R104). -/
def execOraIndX (z : Byte) (s : State) : Result := .next (s.ora (.indX z))

/-- ORA (zp),Y, opcode 11 (R151, R105). -/
def execOraIndY (z : Byte) (s : State) : Result := .next (s.ora (.indY z))

/-- EOR #, opcode 49 (R152, R97). -/
def execEorImm (v : Byte) (s : State) : Result := .next (s.eor (.imm v))

/-- EOR zp, opcode 45 (R152, R98). -/
def execEorZp (z : Byte) (s : State) : Result := .next (s.eor (.zp z))

/-- EOR zp,X, opcode 55 (R152, R99). -/
def execEorZpX (z : Byte) (s : State) : Result := .next (s.eor (.zpX z))

/-- EOR abs, opcode 4D (R152, R101). -/
def execEorAbs (a : Addr) (s : State) : Result := .next (s.eor (.abs a))

/-- EOR abs,X, opcode 5D (R152, R102). -/
def execEorAbsX (a : Addr) (s : State) : Result := .next (s.eor (.absX a))

/-- EOR abs,Y, opcode 59 (R152, R103). -/
def execEorAbsY (a : Addr) (s : State) : Result := .next (s.eor (.absY a))

/-- EOR (zp,X), opcode 41 (R152, R104). -/
def execEorIndX (z : Byte) (s : State) : Result := .next (s.eor (.indX z))

/-- EOR (zp),Y, opcode 51 (R152, R105). -/
def execEorIndY (z : Byte) (s : State) : Result := .next (s.eor (.indY z))

/-- BIT zp, opcode 24 (R153, R98). -/
def execBitZp (z : Byte) (s : State) : Result := .next (s.bit (.zp z))

/-- BIT abs, opcode 2C (R153, R101). -/
def execBitAbs (a : Addr) (s : State) : Result := .next (s.bit (.abs a))

end Sys2Proof.Machine
end

