-- ==== Sys2Proof/Machine/ShiftCount.lean ====
section
/-! DEFINITION. Shifts, rotates, increments, decrements (44_shift_incdec.md R160 to R175). That the memory forms write
Z and N is the spec's own G3 (log 22); the two cycles of the accumulator and register forms are its D5 (DESIGN CHOICE,
log 7). -/

namespace Sys2Proof.Machine

open Sys2Proof

/-- The accumulator form of a shift: `DummyNext(); A <- r; C <- c; SetNZ(r)` (R161, R163, R165, R167). -/
def State.shiftAcc (s : State) (r : Byte × Bool) : State := (s.dummyNext.setA r.1).shiftFlags r

/-- The memory form of a shift: the read-modify-write cycles, then C, Z and N (R162, R164, R166, R168, R174). -/
def State.shiftMem (s : State) (f : AddrForm) (r : Byte × Bool) : State := (s.modifyOperand f r.1).shiftFlags r

/-- ASL A (R161). -/
def State.aslAcc (s : State) : State := s.shiftAcc (Machine.asl s.a)

/-- ASL memory (R162). -/
def State.aslMem (s : State) (f : AddrForm) : State := s.shiftMem f (Machine.asl (s.operand f))

/-- LSR A (R163). -/
def State.lsrAcc (s : State) : State := s.shiftAcc (Machine.lsr s.a)

/-- LSR memory (R164). -/
def State.lsrMem (s : State) (f : AddrForm) : State := s.shiftMem f (Machine.lsr (s.operand f))

/-- ROL A (R165). -/
def State.rolAcc (s : State) : State := s.shiftAcc (Machine.rol s.a s.flagC)

/-- ROL memory (R166). -/
def State.rolMem (s : State) (f : AddrForm) : State := s.shiftMem f (Machine.rol (s.operand f) s.flagC)

/-- ROR A (R167). -/
def State.rorAcc (s : State) : State := s.shiftAcc (Machine.ror s.a s.flagC)

/-- ROR memory (R168). -/
def State.rorMem (s : State) (f : AddrForm) : State := s.shiftMem f (Machine.ror (s.operand f) s.flagC)

/-- `r = (M + 1) mod 256` written back; `SetNZ(r)` (R169). -/
def State.inc (s : State) (f : AddrForm) : State := (s.modifyOperand f (s.operand f + 1)).setNZ (s.operand f + 1)

/-- `r = (M - 1) mod 256` written back; `SetNZ(r)` (R170). -/
def State.dec (s : State) (f : AddrForm) : State := (s.modifyOperand f (s.operand f - 1)).setNZ (s.operand f - 1)

/-- `DummyNext(); X <- (X + 1) mod 256; SetNZ(X)` (R171). -/
def State.inx (s : State) : State := (s.dummyNext.setX (s.x + 1)).setNZ (s.x + 1)

/-- `DummyNext(); Y <- (Y + 1) mod 256; SetNZ(Y)` (R172). -/
def State.iny (s : State) : State := (s.dummyNext.setY (s.y + 1)).setNZ (s.y + 1)

/-- `DummyNext(); X <- (X - 1) mod 256; SetNZ(X)` (R173). -/
def State.dex (s : State) : State := (s.dummyNext.setX (s.x - 1)).setNZ (s.x - 1)

/-- `DummyNext(); Y <- (Y - 1) mod 256; SetNZ(Y)` (R175). -/
def State.dey (s : State) : State := (s.dummyNext.setY (s.y - 1)).setNZ (s.y - 1)

/-- ASL A, opcode 0A (R161). -/
def execAslAcc (s : State) : Result := .next (s.aslAcc)

/-- ASL zp, opcode 06 (R162, R98). -/
def execAslZp (z : Byte) (s : State) : Result := .next (s.aslMem (.zp z))

/-- ASL zp,X, opcode 16 (R162, R99). -/
def execAslZpX (z : Byte) (s : State) : Result := .next (s.aslMem (.zpX z))

/-- ASL abs, opcode 0E (R162, R101). -/
def execAslAbs (a : Addr) (s : State) : Result := .next (s.aslMem (.abs a))

/-- ASL abs,X, opcode 1E (R162, R102). -/
def execAslAbsX (a : Addr) (s : State) : Result := .next (s.aslMem (.absX a))

/-- LSR A, opcode 4A (R163). -/
def execLsrAcc (s : State) : Result := .next (s.lsrAcc)

/-- LSR zp, opcode 46 (R164, R98). -/
def execLsrZp (z : Byte) (s : State) : Result := .next (s.lsrMem (.zp z))

/-- LSR zp,X, opcode 56 (R164, R99). -/
def execLsrZpX (z : Byte) (s : State) : Result := .next (s.lsrMem (.zpX z))

/-- LSR abs, opcode 4E (R164, R101). -/
def execLsrAbs (a : Addr) (s : State) : Result := .next (s.lsrMem (.abs a))

/-- LSR abs,X, opcode 5E (R164, R102). -/
def execLsrAbsX (a : Addr) (s : State) : Result := .next (s.lsrMem (.absX a))

/-- ROL A, opcode 2A (R165). -/
def execRolAcc (s : State) : Result := .next (s.rolAcc)

/-- ROL zp, opcode 26 (R166, R98). -/
def execRolZp (z : Byte) (s : State) : Result := .next (s.rolMem (.zp z))

/-- ROL zp,X, opcode 36 (R166, R99). -/
def execRolZpX (z : Byte) (s : State) : Result := .next (s.rolMem (.zpX z))

/-- ROL abs, opcode 2E (R166, R101). -/
def execRolAbs (a : Addr) (s : State) : Result := .next (s.rolMem (.abs a))

/-- ROL abs,X, opcode 3E (R166, R102). -/
def execRolAbsX (a : Addr) (s : State) : Result := .next (s.rolMem (.absX a))

/-- ROR A, opcode 6A (R167). -/
def execRorAcc (s : State) : Result := .next (s.rorAcc)

/-- ROR zp, opcode 66 (R168, R98). -/
def execRorZp (z : Byte) (s : State) : Result := .next (s.rorMem (.zp z))

/-- ROR zp,X, opcode 76 (R168, R99). -/
def execRorZpX (z : Byte) (s : State) : Result := .next (s.rorMem (.zpX z))

/-- ROR abs, opcode 6E (R168, R101). -/
def execRorAbs (a : Addr) (s : State) : Result := .next (s.rorMem (.abs a))

/-- ROR abs,X, opcode 7E (R168, R102). -/
def execRorAbsX (a : Addr) (s : State) : Result := .next (s.rorMem (.absX a))

/-- INC zp, opcode E6 (R169, R98). -/
def execIncZp (z : Byte) (s : State) : Result := .next (s.inc (.zp z))

/-- INC zp,X, opcode F6 (R169, R99). -/
def execIncZpX (z : Byte) (s : State) : Result := .next (s.inc (.zpX z))

/-- INC abs, opcode EE (R169, R101). -/
def execIncAbs (a : Addr) (s : State) : Result := .next (s.inc (.abs a))

/-- INC abs,X, opcode FE (R169, R102). -/
def execIncAbsX (a : Addr) (s : State) : Result := .next (s.inc (.absX a))

/-- DEC zp, opcode C6 (R170, R98). -/
def execDecZp (z : Byte) (s : State) : Result := .next (s.dec (.zp z))

/-- DEC zp,X, opcode D6 (R170, R99). -/
def execDecZpX (z : Byte) (s : State) : Result := .next (s.dec (.zpX z))

/-- DEC abs, opcode CE (R170, R101). -/
def execDecAbs (a : Addr) (s : State) : Result := .next (s.dec (.abs a))

/-- DEC abs,X, opcode DE (R170, R102). -/
def execDecAbsX (a : Addr) (s : State) : Result := .next (s.dec (.absX a))

/-- INX, opcode E8 (R171). -/
def execInx (s : State) : Result := .next (s.inx)

/-- INY, opcode C8 (R172). -/
def execIny (s : State) : Result := .next (s.iny)

/-- DEX, opcode CA (R173). -/
def execDex (s : State) : Result := .next (s.dex)

/-- DEY, opcode 88 (R175). -/
def execDey (s : State) : Result := .next (s.dey)

end Sys2Proof.Machine
end

