-- ==== Sys2Proof/Machine/System.lean ====
section
/-! DEFINITION. Interrupt control, flag set and clear, stack, no operation (47_system_flags_stack.md R210 to R226).
Which flag a mnemonic names is the spec's own G2 (log 22); the internal cycles of PLA and PLP are its D3 (DESIGN
CHOICE, log 5). -/

namespace Sys2Proof.Machine

open Sys2Proof

/-- `BrkSequence(1, 0xFFFE)` (R210). -/
def State.brk (s : State) : State := s.brkSequence true irqVector

/-- `DummyNext(); Push(A)` (R223). -/
def State.pha (s : State) : State := s.dummyNext.push s.a

/-- `DummyNext(); Push(Pack(1))` (R224). -/
def State.php (s : State) : State := s.dummyNext.push (s.pack true)

/-- `DummyNext(); Internal(); A <- Pull(); SetNZ(A)` (R225). -/
def State.pla (s : State) : State :=
  let s := s.dummyNext.internal
  (s.pull.setA s.pulled).setNZ s.pulled

/-- `DummyNext(); Internal(); Unpack(Pull())` (R226). -/
def State.plp (s : State) : State :=
  let s := s.dummyNext.internal
  s.pull.unpack s.pulled

/-- BRK, opcode 00 (R210). -/
def execBrk (s : State) : Result := .next (s.brk)

/-- RTI, opcode 40 (R212). -/
def execRti (s : State) : Result := .next (s.returnFromInterrupt)

/-- CLC, opcode 18 (R213). -/
def execClc (s : State) : Result := .next (s.dummyNext.setC false)

/-- SEC, opcode 38 (R214). -/
def execSec (s : State) : Result := .next (s.dummyNext.setC true)

/-- CLD, opcode D8 (R215). -/
def execCld (s : State) : Result := .next (s.dummyNext.setD false)

/-- SED, opcode F8 (R216). -/
def execSed (s : State) : Result := .next (s.dummyNext.setD true)

/-- CLI, opcode 58 (R217). -/
def execCli (s : State) : Result := .next (s.dummyNext.setI false)

/-- SEI, opcode 78 (R218). -/
def execSei (s : State) : Result := .next (s.dummyNext.setI true)

/-- CLV, opcode B8 (R219). -/
def execClv (s : State) : Result := .next (s.dummyNext.setV false)

/-- PHA, opcode 48 (R223). -/
def execPha (s : State) : Result := .next (s.pha)

/-- PHP, opcode 08 (R224). -/
def execPhp (s : State) : Result := .next (s.php)

/-- PLA, opcode 68 (R225). -/
def execPla (s : State) : Result := .next (s.pla)

/-- PLP, opcode 28 (R226). -/
def execPlp (s : State) : Result := .next (s.plp)

/-- NOP, opcode EA (R220). -/
def execNop (s : State) : Result := .next (s.dummyNext)

end Sys2Proof.Machine
end

