-- ==== Sys2Proof/Machine/Transfers.lean ====
section
/-! DEFINITION. Transfers: loads, stores, register to register (41_transfers.md R120 to R131). The cycles come first,
the register write after the last of them (40_step_and_addressing.md R112). Which register a mnemonic names is the
spec's own G2 (log 22). -/

namespace Sys2Proof.Machine

open Sys2Proof

/-- `A <- M; SetNZ(M)` (R120). -/
def State.lda (s : State) (f : AddrForm) : State := ((s.readOperand f).setA (s.operand f)).setNZ (s.operand f)

/-- `X <- M; SetNZ(M)` (R121). -/
def State.ldx (s : State) (f : AddrForm) : State := ((s.readOperand f).setX (s.operand f)).setNZ (s.operand f)

/-- `Y <- M; SetNZ(M)` (R122). -/
def State.ldy (s : State) (f : AddrForm) : State := ((s.readOperand f).setY (s.operand f)).setNZ (s.operand f)

/-- `MemWrite(EA, 1, A)`; no flag (R123). -/
def State.sta (s : State) (f : AddrForm) : State := s.storeOperand f s.a

/-- `MemWrite(EA, 1, X)`; no flag (R124). -/
def State.stx (s : State) (f : AddrForm) : State := s.storeOperand f s.x

/-- `MemWrite(EA, 1, Y)`; no flag (R125). -/
def State.sty (s : State) (f : AddrForm) : State := s.storeOperand f s.y

/-- `DummyNext(); X <- A; SetNZ(A)` (R126). -/
def State.tax (s : State) : State := (s.dummyNext.setX s.a).setNZ s.a

/-- `DummyNext(); Y <- A; SetNZ(A)` (R127). -/
def State.tay (s : State) : State := (s.dummyNext.setY s.a).setNZ s.a

/-- `DummyNext(); A <- X; SetNZ(X)` (R128). -/
def State.txa (s : State) : State := (s.dummyNext.setA s.x).setNZ s.x

/-- `DummyNext(); A <- Y; SetNZ(Y)` (R129). -/
def State.tya (s : State) : State := (s.dummyNext.setA s.y).setNZ s.y

/-- `DummyNext(); X <- SP; SetNZ(SP)` (R130). -/
def State.tsx (s : State) : State := (s.dummyNext.setX s.sp).setNZ s.sp

/-- `DummyNext(); SP <- X`; no flag (R131). -/
def State.txs (s : State) : State := s.dummyNext.setSp s.x

/-- LDA #, opcode A9 (R120, R97). -/
def execLdaImm (v : Byte) (s : State) : Result := .next (s.lda (.imm v))

/-- LDA zp, opcode A5 (R120, R98). -/
def execLdaZp (z : Byte) (s : State) : Result := .next (s.lda (.zp z))

/-- LDA zp,X, opcode B5 (R120, R99). -/
def execLdaZpX (z : Byte) (s : State) : Result := .next (s.lda (.zpX z))

/-- LDA abs, opcode AD (R120, R101). -/
def execLdaAbs (a : Addr) (s : State) : Result := .next (s.lda (.abs a))

/-- LDA abs,X, opcode BD (R120, R102). -/
def execLdaAbsX (a : Addr) (s : State) : Result := .next (s.lda (.absX a))

/-- LDA abs,Y, opcode B9 (R120, R103). -/
def execLdaAbsY (a : Addr) (s : State) : Result := .next (s.lda (.absY a))

/-- LDA (zp,X), opcode A1 (R120, R104). -/
def execLdaIndX (z : Byte) (s : State) : Result := .next (s.lda (.indX z))

/-- LDA (zp),Y, opcode B1 (R120, R105). -/
def execLdaIndY (z : Byte) (s : State) : Result := .next (s.lda (.indY z))

/-- LDX #, opcode A2 (R121, R97). -/
def execLdxImm (v : Byte) (s : State) : Result := .next (s.ldx (.imm v))

/-- LDX zp, opcode A6 (R121, R98). -/
def execLdxZp (z : Byte) (s : State) : Result := .next (s.ldx (.zp z))

/-- LDX zp,Y, opcode B6 (R121, R100). -/
def execLdxZpY (z : Byte) (s : State) : Result := .next (s.ldx (.zpY z))

/-- LDX abs, opcode AE (R121, R101). -/
def execLdxAbs (a : Addr) (s : State) : Result := .next (s.ldx (.abs a))

/-- LDX abs,Y, opcode BE (R121, R103). -/
def execLdxAbsY (a : Addr) (s : State) : Result := .next (s.ldx (.absY a))

/-- LDY #, opcode A0 (R122, R97). -/
def execLdyImm (v : Byte) (s : State) : Result := .next (s.ldy (.imm v))

/-- LDY zp, opcode A4 (R122, R98). -/
def execLdyZp (z : Byte) (s : State) : Result := .next (s.ldy (.zp z))

/-- LDY zp,X, opcode B4 (R122, R99). -/
def execLdyZpX (z : Byte) (s : State) : Result := .next (s.ldy (.zpX z))

/-- LDY abs, opcode AC (R122, R101). -/
def execLdyAbs (a : Addr) (s : State) : Result := .next (s.ldy (.abs a))

/-- LDY abs,X, opcode BC (R122, R102). -/
def execLdyAbsX (a : Addr) (s : State) : Result := .next (s.ldy (.absX a))

/-- STA zp, opcode 85 (R123, R98). -/
def execStaZp (z : Byte) (s : State) : Result := .next (s.sta (.zp z))

/-- STA zp,X, opcode 95 (R123, R99). -/
def execStaZpX (z : Byte) (s : State) : Result := .next (s.sta (.zpX z))

/-- STA abs, opcode 8D (R123, R101). -/
def execStaAbs (a : Addr) (s : State) : Result := .next (s.sta (.abs a))

/-- STA abs,X, opcode 9D (R123, R102). -/
def execStaAbsX (a : Addr) (s : State) : Result := .next (s.sta (.absX a))

/-- STA abs,Y, opcode 99 (R123, R103). -/
def execStaAbsY (a : Addr) (s : State) : Result := .next (s.sta (.absY a))

/-- STA (zp,X), opcode 81 (R123, R104). -/
def execStaIndX (z : Byte) (s : State) : Result := .next (s.sta (.indX z))

/-- STA (zp),Y, opcode 91 (R123, R105). -/
def execStaIndY (z : Byte) (s : State) : Result := .next (s.sta (.indY z))

/-- STX zp, opcode 86 (R124, R98). -/
def execStxZp (z : Byte) (s : State) : Result := .next (s.stx (.zp z))

/-- STX zp,Y, opcode 96 (R124, R100). -/
def execStxZpY (z : Byte) (s : State) : Result := .next (s.stx (.zpY z))

/-- STX abs, opcode 8E (R124, R101). -/
def execStxAbs (a : Addr) (s : State) : Result := .next (s.stx (.abs a))

/-- STY zp, opcode 84 (R125, R98). -/
def execStyZp (z : Byte) (s : State) : Result := .next (s.sty (.zp z))

/-- STY zp,X, opcode 94 (R125, R99). -/
def execStyZpX (z : Byte) (s : State) : Result := .next (s.sty (.zpX z))

/-- STY abs, opcode 8C (R125, R101). -/
def execStyAbs (a : Addr) (s : State) : Result := .next (s.sty (.abs a))

/-- TAX, opcode AA (R126). -/
def execTax (s : State) : Result := .next (s.tax)

/-- TAY, opcode A8 (R127). -/
def execTay (s : State) : Result := .next (s.tay)

/-- TXA, opcode 8A (R128). -/
def execTxa (s : State) : Result := .next (s.txa)

/-- TYA, opcode 98 (R129). -/
def execTya (s : State) : Result := .next (s.tya)

/-- TSX, opcode BA (R130). -/
def execTsx (s : State) : Result := .next (s.tsx)

/-- TXS, opcode 9A (R131). -/
def execTxs (s : State) : Result := .next (s.txs)

end Sys2Proof.Machine
end

