-- ==== Sys2Proof/Machine/HostOps.lean ====
section
/-! DEFINITION. What the host may do between two steps, and never inside one (00_scope.md R5, R6; log 20): raise and
clear interrupts (60_exceptions.md R246, R247), reset (70_reset_and_hazards.md R270), the loader (R277) and the
read-only observation (10_state.md R30). Host access to memory is `State.peek` and `State.poke`
(Machine/Memory.lean). -/

namespace Sys2Proof.Machine

open Sys2Proof

/-- `raise_irq()` (60_exceptions.md R246). -/
def State.raiseIrq (s : State) : State := s.setIrq true

/-- `clear_irq()` (60_exceptions.md R246). -/
def State.clearIrq (s : State) : State := s.setIrq false

/-- `raise_nmi()` (60_exceptions.md R247); there is no operation that clears it. -/
def State.raiseNmi (s : State) : State := s.setNmi true

/-- `reset()` (70_reset_and_hazards.md R270): SP, I, the pending latches and `halted` are written; the reset vector is
read by two bus transfers that count no cycle and leave no record (DESIGN CHOICE, the spec's D8, log 10); then the
counter, the poll latches and the trace are cleared. A, X, Y, C, Z, D, V, N, OPCODE and memory are not written. -/
def State.hostReset (s : State) : State :=
  let s := { s with sp := 0xFD, flagI := true, nmiPending := false, irqPending := false, halted := false }
  let s := ((s.busRead resetVector).busRead (resetVector + 1)).setPc
    (joinBytes (s.peek (resetVector + 1)) (s.peek resetVector))
  { s with cycleCount := 0, interruptThisCycle := false, interruptPrevCycle := false, trace := [] }

/-- What the host can read between steps: "A, X, Y, SP, PC, each flag, cycle count, current opcode" (10_state.md
R30). -/
structure Observation where
  a : Byte
  x : Byte
  y : Byte
  sp : Byte
  pc : Addr
  opcode : Byte
  flagC : Bool
  flagZ : Bool
  flagI : Bool
  flagD : Bool
  flagV : Bool
  flagN : Bool
  cycleCount : Nat
  deriving DecidableEq, Repr

/-- The host's view of a state (10_state.md R30); memory is read with `State.peek`. -/
def State.observe (s : State) : Observation where
  a := s.a
  x := s.x
  y := s.y
  sp := s.sp
  pc := s.pc
  opcode := s.opcode
  flagC := s.flagC
  flagZ := s.flagZ
  flagI := s.flagI
  flagD := s.flagD
  flagV := s.flagV
  flagN := s.flagN
  cycleCount := s.cycleCount

/-- Store bytes at ascending addresses from `a` on. -/
def State.pokeAll (s : State) (a : Nat) : List Byte → State
  | [] => s
  | b :: bs => State.pokeAll (s.poke (BitVec.ofNat 16 a) b) (a + 1) bs

/-- `load_program(offset, bytes, initial_pc)` (70_reset_and_hazards.md R277): the bytes, then the reset vector
(DESIGN CHOICE, the spec's D16, log 20); `none` is the loader's own failure `AddressOutOfRange`. No cycle runs. -/
def State.loadProgram (s : State) (offset : Nat) (bytes : List Byte) (initialPc : Addr) : Option State :=
  if offset + bytes.length ≤ 65536 then
    some (((s.pokeAll offset bytes).poke resetVector (lo8 initialPc)).poke (resetVector + 1) (hi8 initialPc))
  else none

end Sys2Proof.Machine
end

