-- ==== Sys2Proof/Machine/Step.lean ====
section
/-! DEFINITION. The step (40_step_and_addressing.md R90 to R93). -/

namespace Sys2Proof.Machine

open Sys2Proof

/-- `step()` (R90): refused while halted; else cycle 1 fetches the opcode, the decoder reads the instruction at its
address, the instruction runs, and the interrupt latch is polled once. An unsupported opcode halts the core and
surfaces with the state it leaves (60_exceptions.md R241, R243). -/
def step (s : State) : Host.Outcome State Fault Refusal :=
  if s.halted then .refused .halted
  else
    match decodeInstr s.fetchOpcode.instrBytes with
    | none => .fault (.unsupportedOpcode s.fetchOpcode.opcode (s.fetchOpcode.setHalted true))
    | some i =>
      match exec i s.fetchOpcode with
      | .next t => .next t.pollAndService
      | .fault r => .fault r
      | .refused r => .refused r

/-- `s` with an instruction, its bits numbered as the opcode table numbers them, stored where the next step fetches:
at PC, PC + 1 and PC + 2; the core not halted, as a step needs (log 3). -/
def State.withFetchWord (s : State) (nbits w : Nat) : State :=
  match tableBytes nbits w with
  | [b0, b1, b2] => (((s.poke s.pc b0).poke (s.pc + 1) b1).poke (s.pc + 2) b2).setHalted false
  | _ => s

end Sys2Proof.Machine
end

