-- ==== Sys2Proof/Machine/Timing.lean ====
section
/-! DEFINITION. The cycle table (70_reset_and_hazards.md R283, "by class and mode"; 40_step_and_addressing.md R113).
The meanings do not use it: their cycles are the ones they run. It is what the claim about cycle counts is stated in.
-/

namespace Sys2Proof.Machine

open Sys2Proof

/-- Whether a branch is taken (46_branch_jump.md R191 to R198; the spec's own G4, log 22). -/
def branchTaken (m : Mnemonic) (s : State) : Bool :=
  match m with
  | .BCC => !s.flagC
  | .BCS => s.flagC
  | .BEQ => s.flagZ
  | .BNE => !s.flagZ
  | .BMI => s.flagN
  | .BPL => !s.flagN
  | .BVC => !s.flagV
  | .BVS => s.flagV
  | _ => false

/-- The cycles a taken branch adds: 1, and 1 more to another page (R190), `pc` being the PC after the operand. -/
def takenCost (pc : Addr) (d : Byte) : Nat := if hi8 pc = hi8 (pc + sext16 d) then 1 else 2

/-- The `+` of the table: 1 when the index addition crosses a page. -/
def crossCost (s : State) : AddrForm → Nat
  | .absX a => bit (pageCross a s.x)
  | .absY a => bit (pageCross a s.y)
  | .indY z => bit (pageCross (s.zpPointer z) s.y)
  | _ => 0

/-- Row "read-type" of the table, without the `+`. -/
def readCycles : AddrForm → Nat
  | .imm _ => 2
  | .zp _ => 3
  | .zpX _ | .zpY _ | .abs _ | .absX _ | .absY _ => 4
  | .indX _ => 6
  | .indY _ | .ind _ => 5

/-- Row "store" of the table. -/
def storeCycles : AddrForm → Nat
  | .imm _ => 2
  | .zp _ => 3
  | .zpX _ | .zpY _ | .abs _ => 4
  | .absX _ | .absY _ | .ind _ => 5
  | .indX _ | .indY _ => 6

/-- Row "read-modify-write" of the table, which is two more than the store row in every mode it has. -/
def modifyCycles (f : AddrForm) : Nat := storeCycles f + 2

/-- The cycles of an instruction, its opcode fetch included, run in the state `s` that the opcode fetch leaves (R283).
-/
def instrCycles (w : Asm) (s : State) : Nat :=
  match w.operand with
  | .addr f =>
    match w.mnemonic with
    | .STA | .STX | .STY => storeCycles f
    | .ASL | .LSR | .ROL | .ROR | .INC | .DEC => modifyCycles f
    | .JMP => readCycles f - bit (f.mode = .absolute)
    | .JSR => 6
    | _ => readCycles f + crossCost s f
  | .rel d => if branchTaken w.mnemonic s then 2 + takenCost (s.pc + 1) d else 2
  | .acc => 2
  | .imp =>
    match w.mnemonic with
    | .PHA | .PHP => 3
    | .PLA | .PLP => 4
    | .RTS | .RTI => 6
    | .BRK => 7
    | _ => 2

end Sys2Proof.Machine
end

