-- ==== Sys2Proof/Safety.lean ====
section
/-! DEFINITION. What counts as a safe step and a consistent state, and the views of a state that claims are stated
in. -/

namespace Sys2Proof.Machine

open Sys2Proof

/-- A step is safe when it completes; a run into an unsupported opcode is "a fatal error and not as an orderly end"
(70_reset_and_hazards.md R285). -/
def SafeStep (s : State) : Prop := ∃ t, step s = .next t

/-- Everything the rules of an instruction write by name: registers, flags, latches and the model's own counter of free
values. What is left out is what every cycle moves (the counter, the poll latches, the bus cells, the trace) and
memory. A frame is an equation between two of these. -/
structure Arch where
  a : Byte
  x : Byte
  y : Byte
  sp : Byte
  pc : Addr
  opcode : Byte
  flagC : Bool
  flagZ : Bool
  flagI : Bool
  flagD : Bool
  flagV : Bool
  flagN : Bool
  irqPending : Bool
  nmiPending : Bool
  halted : Bool
  freeIndex : Nat
  deriving DecidableEq, Repr

/-- The `Arch` view of a state. -/
def State.arch (s : State) : Arch where
  a := s.a
  x := s.x
  y := s.y
  sp := s.sp
  pc := s.pc
  opcode := s.opcode
  flagC := s.flagC
  flagZ := s.flagZ
  flagI := s.flagI
  flagD := s.flagD
  flagV := s.flagV
  flagN := s.flagN
  irqPending := s.irqPending
  nmiPending := s.nmiPending
  halted := s.halted
  freeIndex := s.freeIndex

/-- `Z <- (v mod 256 == 0); N <- ((v mod 256) >= 128)` on the `Arch` view (10_state.md R16). -/
def Arch.nz (r : Arch) (v : Byte) : Arch :=
  { r with flagZ := decide (v.toNat = 0), flagN := decide (128 ≤ v.toNat) }

/-- PC past the operand bytes: where every instruction but a control transfer leaves it (40_step_and_addressing.md
R111), `s` being the state the opcode fetch leaves. -/
def nextPc (s : State) (f : AddrForm) : Addr := s.pc + BitVec.ofNat 16 f.mode.operandBytes

/-- The 105 unsupported opcode bytes, as 30_encoding.md R81 lists them. -/
def unsupportedBytes : List Nat :=
  [0x02, 0x03, 0x04, 0x07, 0x0B, 0x0C, 0x0F, 0x12, 0x13, 0x14, 0x17, 0x1A, 0x1B, 0x1C, 0x1F, 0x22] ++
  [0x23, 0x27, 0x2B, 0x2F, 0x32, 0x33, 0x34, 0x37, 0x3A, 0x3B, 0x3C, 0x3F, 0x42, 0x43, 0x44, 0x47] ++
  [0x4B, 0x4F, 0x52, 0x53, 0x54, 0x57, 0x5A, 0x5B, 0x5C, 0x5F, 0x62, 0x63, 0x64, 0x67, 0x6B, 0x6F] ++
  [0x72, 0x73, 0x74, 0x77, 0x7A, 0x7B, 0x7C, 0x7F, 0x80, 0x82, 0x83, 0x87, 0x89, 0x8B, 0x8F, 0x92] ++
  [0x93, 0x97, 0x9B, 0x9C, 0x9E, 0x9F, 0xA3, 0xA7, 0xAB, 0xAF, 0xB2, 0xB3, 0xB7, 0xBB, 0xBF, 0xC2] ++
  [0xC3, 0xC7, 0xCB, 0xCF, 0xD2, 0xD3, 0xD4, 0xD7, 0xDA, 0xDB, 0xDC, 0xDF, 0xE2, 0xE3, 0xE7, 0xEB] ++
  [0xEF, 0xF2, 0xF3, 0xF4, 0xF7, 0xFA, 0xFB, 0xFC, 0xFF]

/-- Every byte of memory outside `stored` reads as before. -/
def SameMemoryBut (stored : List Addr) (s t : State) : Prop := ∀ b, b ∉ stored → t.peek b = s.peek b

/-- Memory after the cycles of a trace (newest first), or nothing if a read record does not show the byte the earlier
records left at its address (20_memory.md R43, R44, R56: "a read returns the byte most recently written to that
address by any earlier cycle"). -/
def replay (m : Memory) : List BusCycle → Option Memory
  | [] => some m
  | .internal :: cs => replay m cs
  | .read a v :: cs => (replay m cs).bind fun m' => if m'.get a.toNat = v then some m' else none
  | .write a v :: cs => (replay m cs).map fun m' => m'.set a.toNat v

/-- Whether a record is a bus cycle, which toggles `ready_bus` (10_state.md R25). -/
def BusCycle.onBus : BusCycle → Bool
  | .internal => false
  | _ => true

/-- `t` comes from `s` by exactly the cycles `new` (newest first): they are what the trace and the counter gained
(20_memory.md R60: "cycle_count equals the length of the trace"), they explain memory, and `ready_bus` toggled once for
each bus cycle among them (R25, R61). -/
structure Ran (new : List BusCycle) (s t : State) : Prop where
  trace : t.trace = new ++ s.trace
  count : t.cycleCount = s.cycleCount + new.length
  memory : replay s.mem new = some t.mem
  ready : t.readyBus = (s.readyBus ^^ decide ((new.countP BusCycle.onBus) % 2 = 1))

/-- The invariant of a run between two resets: memory is in its canonical form, the counter is the length of the trace,
and the core has not halted. -/
structure Inv (s : State) : Prop where
  memory : s.mem.wf = true
  count : s.cycleCount = s.trace.length
  running : s.halted = false

end Sys2Proof.Machine
end

