-- ==== Sys2Proof/Certificates/Slice0/Obligations.lean ====
section
/-! DEFINITION. The statements for the provers. `exec i s` is the instruction `i` run in the state `s` that its opcode
fetch leaves: `s.pc` is the address after the opcode byte (40_step_and_addressing.md R90, R92). -/

open Sys2Proof Sys2Proof.Machine

/-! ## Encoding -/

/-- 30_encoding.md R71, R74 to R76: decoding the bytes of an instruction, whatever follows them, gives the instruction
back with every operand bit. The opcode map is the spec's own G1 (log 22). -/
def Obligations.DecodeOfEncode : Prop :=
  ∀ (i : Instr) (rest : List Byte), decode (encode i ++ rest) = .ok (i, rest)

/-- 30_encoding.md R74: "Each opcode byte maps to exactly one (mnemonic, addressing mode) pair": what the decoder
reads is what stands in the bytes, so no two byte strings read as one instruction. The opcode map is the spec's own G1
(log 22). -/
def Obligations.EncodeOfDecode : Prop :=
  ∀ (bytes rest : List Byte) (i : Instr), decode bytes = .ok (i, rest) → encode i ++ rest = bytes

/-- 30_encoding.md R80, R81: exactly the 105 listed bytes are rejected as unsupported opcodes. The list is the spec's
own G1 (log 22). -/
def Obligations.UnsupportedBytesAreRejected : Prop :=
  ∀ (op : Byte) (rest : List Byte),
    decode (op :: rest) = .error (.unsupportedOpcode op) ↔ op.toNat ∈ unsupportedBytes

/-- 30_encoding.md R71, R75, R80: the opcode byte alone decides the length, 1 + the operand bytes of the mode; an
unsupported opcode has no length: the step reads its opcode byte and no other. Which bytes are unsupported is the spec's
own G1 (log 22). -/
def Obligations.LengthComesFromOpcodeByte : Prop :=
  (∀ (bytes rest : List Byte) (i : Instr), decode bytes = .ok (i, rest) →
    bytes.length = rest.length + (1 + i.asm.operand.mode.operandBytes)) ∧
  (∀ (op : Byte) (xs ys r r' : List Byte) (i j : Instr),
    decode (op :: xs) = .ok (i, r) → decode (op :: ys) = .ok (j, r') → i.asm.operand.mode = j.asm.operand.mode) ∧
  (∀ s : State, s.halted = false → (s.peek s.pc).toNat ∈ unsupportedBytes →
    ∃ t, step s = .fault (.unsupportedOpcode (s.peek s.pc) t) ∧ t.trace = .read s.pc (s.peek s.pc) :: s.trace)

/-- 30_encoding.md R76, the seven words D00 itself shows (scenarios S1 to S6). -/
def Obligations.SpecWordsDecode : Prop :=
  decodeTableWord 16 0x05A9 = some (.ldaImm 0x05) ∧
  decodeTableWord 16 0x0369 = some (.adcImm 0x03) ∧
  decodeTableWord 8 0xF8 = some .sed ∧
  decodeTableWord 24 0x01FF6C = some (.jmpInd 0x01FF) ∧
  decodeTableWord 24 0x000420 = some (.jsrAbs 0x0004) ∧
  decodeTableWord 8 0x60 = some .rts ∧
  decodeTableWord 8 0x00 = some .brk

/-! ## The step -/

/-- 40_step_and_addressing.md R90 to R93: when the bytes at PC decode to `i`, the step is: fetch the opcode (one read
cycle at PC; OPCODE and PC + 1 written), run `i`, poll once. -/
def Obligations.StepRunsDecodedInstruction : Prop :=
  ∀ (s : State) (i : Instr) (rest : List Byte), s.halted = false →
    decode [s.peek s.pc, s.peek (s.pc + 1), s.peek (s.pc + 2)] = .ok (i, rest) →
    ∃ t, exec i s.fetchOpcode = .next t ∧ step s = .next t.pollAndService ∧
      s.fetchOpcode.arch = { s.arch with pc := s.pc + 1, opcode := s.peek s.pc } ∧
      s.fetchOpcode.trace = .read s.pc (s.peek s.pc) :: s.trace ∧ SameMemoryBut [] s s.fetchOpcode

/-- 60_exceptions.md R241: an unsupported opcode surfaces with PC one past it, OPCODE holding it, one cycle counted,
the poll latches moved once, the bus cells showing the fetch, the core halted (the spec's D9, log 11), nothing else
changed, and no interrupt serviced. Which bytes are unsupported is the spec's own G1 (log 22). -/
def Obligations.UnsupportedOpcodeSurfaces : Prop :=
  ∀ s : State, s.halted = false → (s.peek s.pc).toNat ∈ unsupportedBytes →
    ∃ t, step s = .fault (.unsupportedOpcode (s.peek s.pc) t) ∧
      t = { s with
        pc := s.pc + 1, opcode := s.peek s.pc, cycleCount := s.cycleCount + 1
        interruptPrevCycle := s.interruptThisCycle
        interruptThisCycle := s.nmiPending || (s.irqPending && !s.flagI)
        addressBus := s.pc, dataBus := s.peek s.pc, rwBus := true, readyBus := !s.readyBus
        trace := .read s.pc (s.peek s.pc) :: s.trace, halted := true }

/-- 60_exceptions.md R243 (the model follows the spec's D9, log 11): a halted core refuses every step; `reset()` ends
that. -/
def Obligations.HaltedCoreRefusesUntilReset : Prop :=
  (∀ s : State, s.halted = true → step s = .refused .halted) ∧ ∀ s : State, s.hostReset.halted = false

/-- 60_exceptions.md R240, R241, R243, R244; 30_encoding.md R82: the only condition that stops a running core is an
unsupported opcode byte at PC (which bytes: the spec's own G1, log 22), and a halted core completes no step (the
spec's D9, log 11). -/
def Obligations.StepCompletesExactlyOnSupportedOpcode : Prop :=
  ∀ s : State, SafeStep s ↔ s.halted = false ∧ (s.peek s.pc).toNat ∉ unsupportedBytes

/-- Every step keeps the invariant: memory in canonical form, the cycle counter equal to the length of the bus trace
(20_memory.md R60), the core running. That the counter never wraps
is the spec's D1 (log 1). -/
def Obligations.EveryStepKeepsInvariant : Prop :=
  ∀ s t : State, Inv s → step s = .next t → Inv t

/-- The invariant holds right after reset (70_reset_and_hazards.md R270; 20_memory.md R60). That the counter is 0 and the
trace empty after the two vector reads is the spec's D8 (log 10), that the core runs its D9 (log 11). -/
def Obligations.InvariantHoldsAtReset : Prop := Inv State.reset

/-- 20_memory.md R43, R44, R49, R56, R60, R61; 10_state.md R20, R25: a completed step is a list of cycles. The trace
and the counter grow by exactly them, every read shows the byte the earlier cycles left, memory afterwards is memory
before with the write cycles applied, and `ready_bus` toggled once per bus cycle. That the counter never wraps
is the spec's D1 (log 1). -/
def Obligations.EveryStepIsItsBusTrace : Prop :=
  ∀ s t : State, step s = .next t → ∃ cycles, Ran cycles s t

/-- 70_reset_and_hazards.md R284: a completed step adds at least 2 and at most 7 + 6 + SERVICE_EXTRA_CYCLES cycles (0
here, the spec's D7, log 9), its instruction at most 7; the step that raises UnsupportedOpcode adds 1. -/
def Obligations.StepCycleBounds : Prop :=
  (∀ s t : State, step s = .next t →
    s.cycleCount + 2 ≤ t.cycleCount ∧ t.cycleCount ≤ s.cycleCount + (7 + 6 + serviceExtraCycles)) ∧
  (∀ (s t : State) (i : Instr), exec i s.fetchOpcode = .next t → t.cycleCount ≤ s.cycleCount + 7) ∧
  ∀ (s t : State) (op : Byte), step s = .fault (.unsupportedOpcode op t) → t.cycleCount = s.cycleCount + 1

/-- 70_reset_and_hazards.md R283: every instruction, run after its opcode fetch, completes and takes the cycles of the
table, the fetch included. Rows of the table that no sentence of D00 gives are the spec's own D3, D5, G5 (logs 5, 7,
22). -/
def Obligations.EveryInstructionTakesItsCycles : Prop :=
  ∀ (i : Instr) (s : State), s.opcode = i.opcode →
    ∃ t, exec i s = .next t ∧ t.cycleCount + 1 = s.cycleCount + instrCycles i.asm s

/-- 60_exceptions.md R245, R258; 10_state.md R14, R21, R22: any instruction may run in any state, and none writes
OPCODE, a pending latch or `halted`. -/
def Obligations.NoInstructionWritesControlState : Prop :=
  ∀ (i : Instr) (s : State), ∃ t, exec i s = .next t ∧
    t.opcode = s.opcode ∧ t.irqPending = s.irqPending ∧ t.nmiPending = s.nmiPending ∧ t.halted = s.halted

/-- 10_state.md R19: an instruction not named in a flag's row leaves that flag unchanged. -/
def Obligations.OnlyListedInstructionsWriteAFlag : Prop :=
  ∀ (i : Instr) (s t : State), exec i s = .next t →
    (i.asm.mnemonic ∉ [.ADC, .SBC, .CMP, .CPX, .CPY, .ASL, .LSR, .ROL, .ROR, .CLC, .SEC, .PLP, .RTI] →
      t.flagC = s.flagC) ∧
    (i.asm.mnemonic ∉ [.LDA, .LDX, .LDY, .TAX, .TAY, .TXA, .TYA, .TSX, .PLA, .ADC, .SBC, .AND, .ORA, .EOR, .ASL, .LSR,
        .ROL, .ROR, .INC, .DEC, .INX, .INY, .DEX, .DEY, .CMP, .CPX, .CPY, .BIT, .PLP, .RTI] →
      t.flagZ = s.flagZ ∧ t.flagN = s.flagN) ∧
    (i.asm.mnemonic ∉ [.SEI, .CLI, .BRK, .PLP, .RTI] → t.flagI = s.flagI) ∧
    (i.asm.mnemonic ∉ [.SED, .CLD, .PLP, .RTI] → t.flagD = s.flagD) ∧
    (i.asm.mnemonic ∉ [.ADC, .SBC, .BIT, .CLV, .PLP, .RTI] → t.flagV = s.flagV)

/-- 42_arithmetic.md R147: D affects ADC and SBC only: every other instruction, run with D inverted, completes with the
same registers, the same other flags and the same everything else, but for the flag image that PHP and BRK store
(10_state.md R19); and D is changed by SED, CLD, PLP and RTI only, not by a service, not by reset. -/
def Obligations.DecimalFlagActsOnAdcAndSbcOnly : Prop :=
  (∀ (i : Instr) (s : State), i.asm.mnemonic ∉ [.ADC, .SBC] →
    ∃ t u, exec i s = .next t ∧ exec i (s.setD (!s.flagD)) = .next u ∧
      { u.arch with flagD := t.flagD } = t.arch ∧ (i.asm.mnemonic ∉ [.PHP, .BRK] → u.setD t.flagD = t)) ∧
  (∀ (i : Instr) (s t : State), i.asm.mnemonic ∉ [.SED, .CLD, .PLP, .RTI] → exec i s = .next t → t.flagD = s.flagD) ∧
  (∀ s : State, s.pollAndService.flagD = s.flagD) ∧ ∀ s : State, s.hostReset.flagD = s.flagD

/-! ## Addressing -/

/-- 40_step_and_addressing.md R97 to R106, R108, R109: the effective address of every mode, in numbers: zero-page sums
wrap modulo 256, indexed addresses modulo 65536, pointers are little-endian, and the pointer of JMP indirect wraps
inside its page. The operand M of a read-type instruction is the byte at that address; in Immediate mode it is the
instruction's own operand byte, which in a step is the byte at that address (DEDUCED, log 23). -/
def Obligations.EffectiveAddressOfEveryMode : Prop :=
  ∀ s : State,
    let byte (n : Nat) : Nat := (s.peek (BitVec.ofNat 16 n)).toNat
    (∀ v, (s.resolve (.imm v)).1 = s.pc) ∧
    (∀ z, (s.resolve (.zp z)).1.toNat = z.toNat) ∧
    (∀ z, (s.resolve (.zpX z)).1.toNat = (z.toNat + s.x.toNat) % 256) ∧
    (∀ z, (s.resolve (.zpY z)).1.toNat = (z.toNat + s.y.toNat) % 256) ∧
    (∀ a, (s.resolve (.abs a)).1 = a) ∧
    (∀ a, (s.resolve (.absX a)).1.toNat = (a.toNat + s.x.toNat) % 65536) ∧
    (∀ a, (s.resolve (.absY a)).1.toNat = (a.toNat + s.y.toNat) % 65536) ∧
    (∀ z, (s.resolve (.indX z)).1.toNat =
      byte ((z.toNat + s.x.toNat) % 256) + 256 * byte ((z.toNat + s.x.toNat + 1) % 256)) ∧
    (∀ z, (s.resolve (.indY z)).1.toNat =
      (byte z.toNat + 256 * byte ((z.toNat + 1) % 256) + s.y.toNat) % 65536) ∧
    (∀ p, (s.resolve (.ind p)).1.toNat =
      byte p.toNat + 256 * byte (p.toNat / 256 * 256 + (p.toNat + 1) % 256)) ∧
    (∀ v, s.operand (.imm v) = v) ∧
    (∀ f, (∀ v, f ≠ .imm v) → s.operand f = s.peek (s.resolve f).1)

/-- 40_step_and_addressing.md R102, R103, R105, R108: the bus trace of the indexed modes. After the operand (and
pointer) reads there is one dummy read, low byte indexed and high byte not, when the low-byte addition carries or
OPCODE is one of the nine of 30_encoding.md R79; otherwise there is none. The address without a page cross is the spec's D6 (log 8);
the nine byte values are the spec's own G1 (log 22). -/
def Obligations.IndexedDummyRead : Prop :=
  ∀ (s : State) (a : Addr) (z : Byte),
    let dummy (base : Addr) (idx : Byte) (seen : List BusCycle) : List BusCycle :=
      let d := BitVec.ofNat 16 (base.toNat / 256 * 256 + (base.toNat + idx.toNat) % 256)
      if 255 < base.toNat % 256 + idx.toNat ∨
          s.opcode.toNat ∈ [0x1E, 0x3E, 0x5E, 0x7E, 0xDE, 0xFE, 0x9D, 0x99, 0x91] then
        .read d (s.peek d) :: seen
      else seen
    let two := [BusCycle.read (s.pc + 1) (s.peek (s.pc + 1)), .read s.pc (s.peek s.pc)] ++ s.trace
    let pointer := [BusCycle.read (zext16 (z + 1)) (s.peek (zext16 (z + 1))), .read (zext16 z) (s.peek (zext16 z)),
      .read s.pc (s.peek s.pc)] ++ s.trace
    (s.resolve (.absX a)).2.trace = dummy a s.x two ∧
    (s.resolve (.absY a)).2.trace = dummy a s.y two ∧
    (s.resolve (.indY z)).2.trace = dummy (s.zpPointer z) s.y pointer

/-- 44_shift_incdec.md R174: every memory form of a shift, INC and DEC reads the byte, writes it back unmodified, then
writes the modified byte, all at the effective address. -/
def Obligations.ReadModifyWriteBusPattern : Prop :=
  ∀ (i : Instr) (m : Mnemonic) (f : AddrForm) (s : State), i.asm = ⟨m, .addr f⟩ →
    m ∈ [.ASL, .LSR, .ROL, .ROR, .INC, .DEC] →
    let ea := (s.resolve f).1
    ∃ t, exec i s = .next t ∧
      t.trace = .write ea (t.peek ea) :: .write ea (s.peek ea) :: .read ea (s.peek ea) :: (s.resolve f).2.trace

/-! ## What each instruction does: result and frame

An equation `t.arch = …` says every register, flag and latch of the result at once; `SameMemoryBut l s t` says every byte
outside `l` reads as before. -/

/-- 41_transfers.md R120 to R122, in every mode (the registers are the spec's own G2, log 22). -/
def Obligations.LoadsLoad : Prop :=
  ∀ (i : Instr) (f : AddrForm) (s : State),
    let m := s.operand f
    let r := { s.arch with pc := nextPc s f }.nz m
    (i.asm = ⟨.LDA, .addr f⟩ → ∃ t, exec i s = .next t ∧ t.arch = { r with a := m } ∧ SameMemoryBut [] s t) ∧
    (i.asm = ⟨.LDX, .addr f⟩ → ∃ t, exec i s = .next t ∧ t.arch = { r with x := m } ∧ SameMemoryBut [] s t) ∧
    (i.asm = ⟨.LDY, .addr f⟩ → ∃ t, exec i s = .next t ∧ t.arch = { r with y := m } ∧ SameMemoryBut [] s t)

/-- 41_transfers.md R123 to R125, in every mode: one byte, at the effective address the resolver gives, is the
register; no flag and no register but PC changes (G2, log 22). -/
def Obligations.StoresStore : Prop :=
  ∀ (i : Instr) (f : AddrForm) (s : State),
    let ea := (s.resolve f).1
    let stores (v : Byte) : Prop := ∃ t, exec i s = .next t ∧ t.arch = { s.arch with pc := nextPc s f } ∧
      t.peek ea = v ∧ SameMemoryBut [ea] s t
    (i.asm = ⟨.STA, .addr f⟩ → stores s.a) ∧ (i.asm = ⟨.STX, .addr f⟩ → stores s.x) ∧
    (i.asm = ⟨.STY, .addr f⟩ → stores s.y)

/-- 41_transfers.md R126 to R131: the six register transfers; TXS writes no flag (G2, log 22). -/
def Obligations.TransfersTransfer : Prop :=
  ∀ s : State,
    let gives (i : Instr) (r : Arch) : Prop := ∃ t, exec i s = .next t ∧ t.arch = r ∧ SameMemoryBut [] s t
    gives .tax ({ s.arch with x := s.a }.nz s.a) ∧ gives .tay ({ s.arch with y := s.a }.nz s.a) ∧
    gives .txa ({ s.arch with a := s.x }.nz s.x) ∧ gives .tya ({ s.arch with a := s.y }.nz s.y) ∧
    gives .tsx ({ s.arch with x := s.sp }.nz s.sp) ∧ gives .txs { s.arch with sp := s.x }

/-- 42_arithmetic.md R140, R141, R143, R144 with D = 0, in every mode: the exact sum or difference narrowed to a byte,
C the carry or no-borrow, V whether the signed result is out of range, Z and N from the byte written. -/
def Obligations.BinaryAddAndSubtract : Prop :=
  ∀ (i : Instr) (f : AddrForm) (s : State), s.flagD = false →
    let m := s.operand f
    let c : Int := s.flagC.toNat
    let sum : Int := s.a.toNat + m.toNat + c
    let diff : Int := s.a.toNat - m.toNat - (1 - c)
    let signedSum := s.a.toInt + m.toInt + c
    let signedDiff := s.a.toInt - m.toInt - (1 - c)
    let r := { s.arch with pc := nextPc s f }
    (i.asm = ⟨.ADC, .addr f⟩ → ∃ t, exec i s = .next t ∧ SameMemoryBut [] s t ∧
      t.arch = { r with
        a := BitVec.ofInt 8 sum, flagC := decide (255 < sum)
        flagV := decide (signedSum < -128 ∨ 127 < signedSum) }.nz (BitVec.ofInt 8 sum)) ∧
    (i.asm = ⟨.SBC, .addr f⟩ → ∃ t, exec i s = .next t ∧ SameMemoryBut [] s t ∧
      t.arch = { r with
        a := BitVec.ofInt 8 diff, flagC := decide (0 ≤ diff)
        flagV := decide (signedDiff < -128 ∨ 127 < signedDiff) }.nz (BitVec.ofInt 8 diff))

/-- 42_arithmetic.md R140, R142, R143, R145 with D = 1 and valid BCD operands, in every mode: the decimal sum or
difference modulo 100, C whether it left 0 to 99 (for SBC: whether it did not), Z and N from the byte written. V is a
free value: nothing is said of it (log 12). The subtraction is the spec's D10 (log 14). -/
def Obligations.DecimalAddAndSubtract : Prop :=
  ∀ (i : Instr) (f : AddrForm) (s : State), s.flagD = true → validBcd s.a = true → validBcd (s.operand f) = true →
    let c : Int := s.flagC.toNat
    let sum : Int := decValue s.a + decValue (s.operand f) + c
    let diff : Int := decValue s.a - decValue (s.operand f) - (1 - c)
    let r := { s.arch with pc := nextPc s f, freeIndex := s.freeIndex + 1 }
    (i.asm = ⟨.ADC, .addr f⟩ → ∃ t v, exec i s = .next t ∧ SameMemoryBut [] s t ∧
      t.arch = { r with
        a := bcdByte (sum % 100).toNat, flagC := decide (99 < sum), flagV := v }.nz (bcdByte (sum % 100).toNat)) ∧
    (i.asm = ⟨.SBC, .addr f⟩ → ∃ t v, exec i s = .next t ∧ SameMemoryBut [] s t ∧
      t.arch = { r with
        a := bcdByte (diff % 100).toNat, flagC := decide (0 ≤ diff), flagV := v }.nz (bcdByte (diff % 100).toNat))

/-- 42_arithmetic.md R142, R145; 93_implementation_defined.md U2: with D = 1 and an operand nibble above 9, ADC and SBC
complete with some result byte, some carry and some V (free values, logs 12 and 13); nothing else changes but PC. That
Z and N agree with the byte written is the model's choice (DESIGN CHOICE, log 13): U2 leaves them any value. -/
def Obligations.InvalidBcdStillCompletes : Prop :=
  ∀ (i : Instr) (f : AddrForm) (s : State), s.flagD = true →
    ¬(validBcd s.a = true ∧ validBcd (s.operand f) = true) →
    (i.asm = ⟨.ADC, .addr f⟩ ∨ i.asm = ⟨.SBC, .addr f⟩) →
    ∃ t v c o, exec i s = .next t ∧ SameMemoryBut [] s t ∧
      t.arch = { s.arch with
        pc := nextPc s f, freeIndex := s.freeIndex + 1, a := v, flagC := c, flagV := o }.nz v

/-- 43_logic_bit.md R150 to R152, in every mode (the operations are the spec's own G2, log 22). -/
def Obligations.LogicOperations : Prop :=
  ∀ (i : Instr) (f : AddrForm) (s : State),
    let m := s.operand f
    let gives (v : Byte) : Prop := ∃ t, exec i s = .next t ∧
      t.arch = { s.arch with pc := nextPc s f, a := v }.nz v ∧ SameMemoryBut [] s t
    (i.asm = ⟨.AND, .addr f⟩ → gives (s.a &&& m)) ∧ (i.asm = ⟨.ORA, .addr f⟩ → gives (s.a ||| m)) ∧
    (i.asm = ⟨.EOR, .addr f⟩ → gives (s.a ^^^ m))

/-- 43_logic_bit.md R153: "Z ← (A & M) == 0; N ← bit7(M); V ← bit6(M). A is unchanged." -/
def Obligations.BitTestsMemory : Prop :=
  ∀ (i : Instr) (f : AddrForm) (s : State), i.asm = ⟨.BIT, .addr f⟩ →
    let m := s.operand f
    ∃ t, exec i s = .next t ∧ SameMemoryBut [] s t ∧
      t.arch = { s.arch with
        pc := nextPc s f, flagZ := decide (s.a &&& m = 0), flagN := decide (128 ≤ m.toNat)
        flagV := decide (64 ≤ m.toNat % 128) }

/-- 44_shift_incdec.md R160, R161, R163, R165, R167: the accumulator shifts and rotates, in numbers. -/
def Obligations.AccumulatorShifts : Prop :=
  ∀ s : State,
    let n := s.a.toNat
    let c := s.flagC.toNat
    let gives (i : Instr) (r : Nat) (out : Bool) : Prop := ∃ t, exec i s = .next t ∧ SameMemoryBut [] s t ∧
      t.arch = { s.arch with a := BitVec.ofNat 8 r, flagC := out }.nz (BitVec.ofNat 8 r)
    gives .aslAcc (2 * n) (decide (128 ≤ n)) ∧ gives .lsrAcc (n / 2) (decide (n % 2 = 1)) ∧
    gives .rolAcc (2 * n + c) (decide (128 ≤ n)) ∧ gives .rorAcc (n / 2 + 128 * c) (decide (n % 2 = 1))

/-- 44_shift_incdec.md R160, R162, R164, R166, R168, in every memory mode: the byte at the effective address is
replaced, C is the bit shifted out, Z and N come from the byte written (the spec's own G3, log 22). -/
def Obligations.MemoryShifts : Prop :=
  ∀ (i : Instr) (f : AddrForm) (s : State),
    let ea := (s.resolve f).1
    let n := (s.peek ea).toNat
    let c := s.flagC.toNat
    let gives (r : Nat) (out : Bool) : Prop := ∃ t, exec i s = .next t ∧ SameMemoryBut [ea] s t ∧
      t.peek ea = BitVec.ofNat 8 r ∧ t.arch = { s.arch with pc := nextPc s f, flagC := out }.nz (BitVec.ofNat 8 r)
    (i.asm = ⟨.ASL, .addr f⟩ → gives (2 * n) (decide (128 ≤ n))) ∧
    (i.asm = ⟨.LSR, .addr f⟩ → gives (n / 2) (decide (n % 2 = 1))) ∧
    (i.asm = ⟨.ROL, .addr f⟩ → gives (2 * n + c) (decide (128 ≤ n))) ∧
    (i.asm = ⟨.ROR, .addr f⟩ → gives (n / 2 + 128 * c) (decide (n % 2 = 1)))

/-- 44_shift_incdec.md R169, R170, in every memory mode: the byte at the effective address counts up or down modulo
256, Z and N from it, C and V unchanged (the spec's own G2, G3, log 22). -/
def Obligations.MemoryCounts : Prop :=
  ∀ (i : Instr) (f : AddrForm) (s : State),
    let ea := (s.resolve f).1
    let n := (s.peek ea).toNat
    let gives (r : Nat) : Prop := ∃ t, exec i s = .next t ∧ SameMemoryBut [ea] s t ∧
      t.peek ea = BitVec.ofNat 8 r ∧ t.arch = { s.arch with pc := nextPc s f }.nz (BitVec.ofNat 8 r)
    (i.asm = ⟨.INC, .addr f⟩ → gives (n + 1)) ∧ (i.asm = ⟨.DEC, .addr f⟩ → gives (n + 255))

/-- 44_shift_incdec.md R171 to R173, R175: the register counts modulo 256 (G2, log 22). -/
def Obligations.RegisterCounts : Prop :=
  ∀ s : State,
    let gives (i : Instr) (v : Byte) (r : Arch) : Prop := ∃ t, exec i s = .next t ∧ t.arch = r.nz v ∧ SameMemoryBut [] s t
    (let v := BitVec.ofNat 8 (s.x.toNat + 1); gives .inx v { s.arch with x := v }) ∧
    (let v := BitVec.ofNat 8 (s.y.toNat + 1); gives .iny v { s.arch with y := v }) ∧
    (let v := BitVec.ofNat 8 (s.x.toNat + 255); gives .dex v { s.arch with x := v }) ∧
    (let v := BitVec.ofNat 8 (s.y.toNat + 255); gives .dey v { s.arch with y := v })

/-- 45_compare.md R180 to R183, in every mode: C iff R ≥ M, Z iff equal, N bit 7 of the difference modulo 256; no
register but PC changes. That R is A, X, Y for CMP, CPX, CPY is the spec's own G2 (log 22). -/
def Obligations.ComparesCompare : Prop :=
  ∀ (i : Instr) (f : AddrForm) (s : State),
    let m := s.operand f
    let gives (r : Byte) : Prop := ∃ t, exec i s = .next t ∧ SameMemoryBut [] s t ∧
      t.arch = { s.arch with
        pc := nextPc s f, flagC := decide (m.toNat ≤ r.toNat), flagZ := decide (r = m)
        flagN := decide (128 ≤ (256 + r.toNat - m.toNat) % 256) }
    (i.asm = ⟨.CMP, .addr f⟩ → gives s.a) ∧ (i.asm = ⟨.CPX, .addr f⟩ → gives s.x) ∧
    (i.asm = ⟨.CPY, .addr f⟩ → gives s.y)

/-- 46_branch_jump.md R190 to R198: a branch writes no register but PC and no flag. Not taken, PC is past the
displacement; taken, it is that plus the signed displacement, modulo 65536 (the predicates are the spec's own G4, log
22). -/
def Obligations.BranchesBranch : Prop :=
  ∀ (s : State) (d : Byte),
    let gives (i : Instr) (taken : Bool) : Prop := ∃ t, exec i s = .next t ∧ SameMemoryBut [] s t ∧
      t.arch = { s.arch with pc := BitVec.ofInt 16 (s.pc.toNat + 1 + if taken then d.toInt else 0) }
    gives (.bcc d) (!s.flagC) ∧ gives (.bcs d) s.flagC ∧ gives (.beq d) s.flagZ ∧ gives (.bne d) (!s.flagZ) ∧
    gives (.bmi d) s.flagN ∧ gives (.bpl d) (!s.flagN) ∧ gives (.bvc d) (!s.flagV) ∧ gives (.bvs d) s.flagV

/-- 46_branch_jump.md R199, R200; 40_step_and_addressing.md R106: JMP loads PC with the operand, or with the two bytes
read through it, the high one from the pointer's own page. -/
def Obligations.JumpsJump : Prop :=
  ∀ (s : State) (a : Addr),
    (∃ t, exec (.jmpAbs a) s = .next t ∧ t.arch = { s.arch with pc := a } ∧ SameMemoryBut [] s t) ∧
    (∃ t, exec (.jmpInd a) s = .next t ∧ SameMemoryBut [] s t ∧
      t.arch = { s.arch with
        pc := joinBytes (s.peek ((a &&& 0xFF00) ||| ((a + 1) &&& 0x00FF))) (s.peek a) })

/-- 46_branch_jump.md R201: JSR pushes the address of its own last byte, high then low, and loads PC; only those two
bytes of the stack page change. That PC is the operand also where the push overwrites the JSR's third byte is the
spec's D11 (log 15). -/
def Obligations.SubroutineCall : Prop :=
  ∀ (s : State) (a : Addr), ∃ t, exec (.jsrAbs a) s = .next t ∧
    t.arch = { s.arch with pc := a, sp := s.sp - 2 } ∧
    t.peek (stackAddr s.sp) = hi8 (s.pc + 1) ∧ t.peek (stackAddr (s.sp - 1)) = lo8 (s.pc + 1) ∧
    SameMemoryBut [stackAddr s.sp, stackAddr (s.sp - 1)] s t

/-- 46_branch_jump.md R202: RTS pulls low then high and goes to the address after the pulled one. -/
def Obligations.SubroutineReturn : Prop :=
  ∀ s : State, ∃ t, exec .rts s = .next t ∧ SameMemoryBut [] s t ∧
    t.arch = { s.arch with
      sp := s.sp + 2, pc := joinBytes (s.peek (stackAddr (s.sp + 2))) (s.peek (stackAddr (s.sp + 1))) + 1 }

/-- 47_system_flags_stack.md R210, R211; 60_exceptions.md R252: BRK pushes PC + 1 (the opcode's address + 2), high then
low, and the flag image with bit 4 set and I as it was; it sets I and loads PC from 0xFFFE. Nothing else changes. -/
def Obligations.BreakTakesTheException : Prop :=
  ∀ s : State, ∃ t, exec .brk s = .next t ∧
    t.arch = { s.arch with sp := s.sp - 3, flagI := true, pc := joinBytes (s.peek 0xFFFF) (s.peek 0xFFFE) } ∧
    t.peek (stackAddr s.sp) = hi8 (s.pc + 1) ∧ t.peek (stackAddr (s.sp - 1)) = lo8 (s.pc + 1) ∧
    t.peek (stackAddr (s.sp - 2)) = s.pack true ∧
    SameMemoryBut [stackAddr s.sp, stackAddr (s.sp - 1), stackAddr (s.sp - 2)] s t

/-- 47_system_flags_stack.md R212: RTI pulls the flags (bits 4 and 5 ignored), then PC low, then PC high, with no
adjustment. -/
def Obligations.ReturnFromInterrupt : Prop :=
  ∀ s : State,
    let p := s.peek (stackAddr (s.sp + 1))
    ∃ t, exec .rti s = .next t ∧ SameMemoryBut [] s t ∧
      t.arch = { s.arch with
        sp := s.sp + 3, pc := joinBytes (s.peek (stackAddr (s.sp + 3))) (s.peek (stackAddr (s.sp + 2)))
        flagC := p.getLsbD 0, flagZ := p.getLsbD 1, flagI := p.getLsbD 2, flagD := p.getLsbD 3
        flagV := p.getLsbD 6, flagN := p.getLsbD 7 }

/-- 47_system_flags_stack.md R213 to R220: the seven flag instructions write their flag and nothing else (G2, log 22);
NOP writes nothing. -/
def Obligations.FlagInstructionsAndNop : Prop :=
  ∀ s : State,
    let gives (i : Instr) (r : Arch) : Prop := ∃ t, exec i s = .next t ∧ t.arch = r ∧ SameMemoryBut [] s t
    gives .clc { s.arch with flagC := false } ∧ gives .sec { s.arch with flagC := true } ∧
    gives .cld { s.arch with flagD := false } ∧ gives .sed { s.arch with flagD := true } ∧
    gives .cli { s.arch with flagI := false } ∧ gives .sei { s.arch with flagI := true } ∧
    gives .clv { s.arch with flagV := false } ∧ gives .nop s.arch

/-- 47_system_flags_stack.md R223, R224: PHA and PHP store one byte at the stack address and move SP down; the image
PHP stores has bits 4 and 5 set. -/
def Obligations.PushInstructions : Prop :=
  ∀ s : State,
    let pushes (i : Instr) (v : Byte) : Prop := ∃ t, exec i s = .next t ∧ t.arch = { s.arch with sp := s.sp - 1 } ∧
      t.peek (stackAddr s.sp) = v ∧ SameMemoryBut [stackAddr s.sp] s t
    pushes .pha s.a ∧ pushes .php (s.pack false ||| 0x10)

/-- 47_system_flags_stack.md R225, R226: PLA loads A, Z and N from the byte above the stack pointer; PLP loads the six
flags from it. -/
def Obligations.PullInstructions : Prop :=
  ∀ s : State,
    let v := s.peek (stackAddr (s.sp + 1))
    (∃ t, exec .pla s = .next t ∧ SameMemoryBut [] s t ∧ t.arch = { s.arch with a := v, sp := s.sp + 1 }.nz v) ∧
    (∃ t, exec .plp s = .next t ∧ SameMemoryBut [] s t ∧
      t.arch = { s.arch with
        sp := s.sp + 1, flagC := v.getLsbD 0, flagZ := v.getLsbD 1, flagI := v.getLsbD 2, flagD := v.getLsbD 3
        flagV := v.getLsbD 6, flagN := v.getLsbD 7 })

/-! ## The arithmetic unit -/

/-- 42_arithmetic.md R141: AddBinary, and that its V is the signed overflow. -/
def Obligations.AddBinaryOverflowIsSigned : Prop :=
  ∀ (a m : Byte) (c : Bool),
    let s := a.toNat + m.toNat + c.toNat
    let r := addBinary a m c
    r.value.toNat = s % 256 ∧ r.carry = decide (s > 255) ∧
    r.overflow = (decide ((a ^^^ r.value) &&& 0x80 ≠ 0) && decide ((a ^^^ m) &&& 0x80 = 0)) ∧
    (r.overflow = true ↔ a.toInt + m.toInt + c.toNat < -128 ∨ 127 < a.toInt + m.toInt + c.toNat)

/-- 42_arithmetic.md R144: SubBinary is AddBinary of the complement in all three results (an inference the spec marks
as its own), its V is the signed overflow, its carry is "no borrow". -/
def Obligations.SubBinaryIsAddOfComplement : Prop :=
  ∀ (a m : Byte) (c : Bool),
    subBinary a m c = addBinary a (m ^^^ 0xFF) c ∧
    ((subBinary a m c).carry = true ↔ m.toNat + (1 - c.toNat) ≤ a.toNat) ∧
    ((subBinary a m c).overflow = true ↔
      a.toInt - m.toInt - (1 - c.toNat) < -128 ∨ 127 < a.toInt - m.toInt - (1 - c.toNat))

/-- 42_arithmetic.md R142: the nibble form of decimal addition "agrees with the decimal rule on all 20 000 valid
inputs" (an inference the spec marks as its own). Nothing is said of V (log 12). -/
def Obligations.DecimalAddByNibbles : Prop :=
  ∀ (k : Nat) (a m : Byte) (c : Bool), validBcd a = true → validBcd m = true →
    let lo := a.toNat % 16 + m.toNat % 16 + c.toNat
    let hi := a.toNat / 16 + m.toNat / 16 + if 9 < lo then 1 else 0
    let lo' := if 9 < lo then lo - 10 else lo
    let hi' := if 9 < hi then hi - 10 else hi
    (addDecimal k a m c).value.toNat = 16 * hi' + lo' ∧ (addDecimal k a m c).carry = decide (9 < hi)

/-- 42_arithmetic.md R146 (g), of the two functions: AddBinary of m with carry 1, then SubBinary of m from its result with
its carry, gives a with carry 1 when AddBinary produced no carry, and a + 1 when it did. -/
def Obligations.SubtractUndoesAddUnlessCarry : Prop :=
  ∀ (a m : Byte),
    let r := addBinary a m true
    let q := subBinary r.value m r.carry
    (r.carry = false → q.value = a ∧ q.carry = true) ∧ (r.carry = true → q.value = a + 1)

/-- 44_shift_incdec.md R160: the four shift functions, in numbers; the result of Lsr has bit 7 = 0; nine rotations
restore the byte and the carry. -/
def Obligations.ShiftFunctionsAndNineRotations : Prop :=
  ∀ (v : Byte) (c : Bool),
    let left (p : Byte × Bool) := rol p.1 p.2
    let right (p : Byte × Bool) := ror p.1 p.2
    asl v = (BitVec.ofNat 8 (2 * v.toNat), decide (128 ≤ v.toNat)) ∧
    lsr v = (BitVec.ofNat 8 (v.toNat / 2), decide (v.toNat % 2 = 1)) ∧
    rol v c = (BitVec.ofNat 8 (2 * v.toNat + c.toNat), decide (128 ≤ v.toNat)) ∧
    ror v c = (BitVec.ofNat 8 (v.toNat / 2 + 128 * c.toNat), decide (v.toNat % 2 = 1)) ∧
    (lsr v).1.getLsbD 7 = false ∧
    left^[9] (v, c) = (v, c) ∧ right^[9] (v, c) = (v, c)

/-- 45_compare.md R180: Compare writes C, Z and N by its rule and no other flag or register, and the three equal what
SubBinary(r, m, 1) gives. -/
def Obligations.CompareIsSubtractWithoutStoring : Prop :=
  ∀ (s : State) (r m : Byte),
    let d := (256 + r.toNat - m.toNat) % 256
    let q := subBinary r m true
    (s.compare r m).arch = { s.arch with
      flagC := decide (m.toNat ≤ r.toNat), flagZ := decide (r.toNat = m.toNat), flagN := decide (128 ≤ d) } ∧
    (s.compare r m).flagC = q.carry ∧ (s.compare r m).flagZ = (q.value == 0) ∧ (s.compare r m).flagN = q.value.msb ∧
    (s.compare r m).mem = s.mem

/-! ## The flag image and the stack -/

/-- 10_state.md R17: every bit of the packed image; PHP and BRK push Pack(1), an interrupt service pushes Pack(0). -/
def Obligations.PackedFlagImage : Prop :=
  (∀ (s : State) (b : Bool),
    (s.pack b).toNat = s.flagC.toNat + 2 * s.flagZ.toNat + 4 * s.flagI.toNat + 8 * s.flagD.toNat + 16 * b.toNat + 32 +
      64 * s.flagV.toNat + 128 * s.flagN.toNat) ∧
  (∀ s : State, ∃ t, exec .php s = .next t ∧ t.peek (stackAddr s.sp) = s.pack true) ∧
  (∀ s : State, ∃ t, exec .brk s = .next t ∧ t.peek (stackAddr (s.sp - 2)) = s.pack true) ∧
  ∀ (s : State) (extra : Nat) (vector : Addr),
    (s.service extra vector).peek (stackAddr (s.sp - 2)) = s.pack false

/-- 10_state.md R18: Unpack writes the six flags from p and nothing else; Unpack(Pack(b)) changes no flag; and packing
after an unpack gives back p but for bits 4 and 5. -/
def Obligations.UnpackRestoresFlags : Prop :=
  (∀ (s : State) (p : Byte),
    s.unpack p = { s with
      flagC := decide (p.toNat % 2 = 1), flagZ := decide (p.toNat / 2 % 2 = 1), flagI := decide (p.toNat / 4 % 2 = 1)
      flagD := decide (p.toNat / 8 % 2 = 1), flagV := decide (p.toNat / 64 % 2 = 1)
      flagN := decide (p.toNat / 128 % 2 = 1) }) ∧
  (∀ (s : State) (b : Bool), s.unpack (s.pack b) = s) ∧
  (∀ (s : State) (p : Byte) (b : Bool),
    (s.unpack p).pack b = (p &&& 0xCF) ||| 0x20 ||| (if b then 0x10 else 0))

/-- 10_state.md R12: Push writes at 0x0100 | SP and then decrements SP modulo 256; Pull increments first and reads
after; each is exactly one bus cycle. -/
def Obligations.PushAndPull : Prop :=
  ∀ (s : State) (v : Byte),
    let top := 0x0100 ||| zext16 s.sp
    let up := 0x0100 ||| zext16 (s.sp + 1)
    (s.push v = { s.memWrite top v with sp := BitVec.ofNat 8 (s.sp.toNat + 255) } ∧
      (s.push v).trace = .write top v :: s.trace ∧ (s.push v).cycleCount = s.cycleCount + 1) ∧
    (s.pull = { s.memRead up with sp := BitVec.ofNat 8 (s.sp.toNat + 1) } ∧ s.pulled = s.peek up ∧
      s.pull.trace = .read up (s.peek up) :: s.trace ∧ s.pull.cycleCount = s.cycleCount + 1)

/-- 46_branch_jump.md R201, R202: a subroutine that returns at once resumes after the call with SP and every register as
before. That the subroutine is at the operand also where the push overwrites the JSR's third byte is the spec's D11
(log 15). -/
def Obligations.ReturnResumesAfterCall : Prop :=
  ∀ (s : State) (a : Addr), ∃ t u, exec (.jsrAbs a) s = .next t ∧ exec .rts t.fetchOpcode = .next u ∧
    u.arch = { s.arch with pc := s.pc + 2, opcode := t.peek a }

/-- 60_exceptions.md R253: RTI at the head of the handler. After BRK it resumes at the BRK's address + 2, after an IRQ or
NMI service at the very PC the instruction left; all six flags and SP are as before. OPCODE is the RTI's byte, and the
serviced NMI is no longer pending. -/
def Obligations.ReturnResumesAfterBreak : Prop :=
  (∀ s : State, ∃ t u, exec .brk s = .next t ∧ exec .rti t.fetchOpcode = .next u ∧
    u.arch = { s.arch with pc := s.pc + 1, opcode := t.peek t.pc }) ∧
  (∀ s : State, s.interruptPrevCycle = true → (s.nmiPending = true ∨ s.irqPending = true) →
    let t := s.pollAndService
    ∃ u, exec .rti t.fetchOpcode = .next u ∧
      u.arch = { s.arch with opcode := t.peek t.pc, nmiPending := false })

/-! ## The bus -/

/-- 20_memory.md R43, R44, R46, R47: the two bus cycles, cell by cell; a write changes the one byte at its address and
a read changes none. -/
def Obligations.BusCyclesTransferOneByte : Prop :=
  ∀ (s : State) (a : Addr) (v : Byte),
    s.memRead a = ({ s with
      addressBus := a, rwBus := true, readyBus := !s.readyBus, dataBus := s.peek a }).endCycle (.read a (s.peek a)) ∧
    SameMemoryBut [] s (s.memRead a) ∧
    s.memWrite a v = ({ s with
      addressBus := a, rwBus := false, dataBus := v, readyBus := !s.readyBus
      mem := (s.memWrite a v).mem }).endCycle (.write a v) ∧
    (s.memWrite a v).peek a = v ∧ SameMemoryBut [a] s (s.memWrite a v)

/-- 20_memory.md R49: the end of a cycle, in its order: the counter, then prev takes the old latch, then the latch is
nmi ∨ (irq ∧ ¬I) with the values of this moment. -/
def Obligations.EndOfCycle : Prop :=
  ∀ (s : State) (r : BusCycle), s.endCycle r =
    { s with
      cycleCount := s.cycleCount + 1, interruptPrevCycle := s.interruptThisCycle
      interruptThisCycle := s.nmiPending || (s.irqPending && !s.flagI), trace := r :: s.trace }

/-! ## Interrupts and reset -/

/-- 60_exceptions.md R249 to R252: with the latch true after an instruction, a pending NMI is serviced through 0xFFFA
and cleared, else a pending IRQ through 0xFFFE and it stays pending; either pushes the PC the instruction left and the
flag image with bit 4 clear, sets I, clears interrupt_prev_cycle, writes no other register, and takes six cycles
(SERVICE_EXTRA_CYCLES = 0, the spec's D7, log 9). interrupt_this_cycle stays as the last cycle computed it, with I = 1
and the NMI still pending: true after an NMI service, false after an IRQ service (R250, R257). That it is false then
rests on I being written before the vector reads, the spec's D12 (log 16). -/
def Obligations.InterruptServiceFrame : Prop :=
  ∀ s : State, s.interruptPrevCycle = true → (s.nmiPending = true ∨ s.irqPending = true) →
    let vector : Addr := if s.nmiPending then 0xFFFA else 0xFFFE
    let t := s.pollAndService
    t.arch = { s.arch with
      sp := s.sp - 3, flagI := true, nmiPending := false, pc := joinBytes (s.peek (vector + 1)) (s.peek vector) } ∧
    t.peek (stackAddr s.sp) = hi8 s.pc ∧ t.peek (stackAddr (s.sp - 1)) = lo8 s.pc ∧
    t.peek (stackAddr (s.sp - 2)) = s.pack false ∧
    SameMemoryBut [stackAddr s.sp, stackAddr (s.sp - 1), stackAddr (s.sp - 2)] s t ∧
    t.interruptPrevCycle = false ∧ t.interruptThisCycle = s.nmiPending ∧ t.cycleCount = s.cycleCount + 6

/-- 60_exceptions.md R249: the latch read after an instruction is never true without a pending source (an inference the
spec marks as its own), whatever the latches were when the step began. -/
def Obligations.PollLatchHasASource : Prop :=
  ∀ (i : Instr) (s t : State), exec i s.fetchOpcode = .next t → t.interruptPrevCycle = true →
    t.nmiPending = true ∨ t.irqPending = true

/-- 60_exceptions.md R256 (a) to (d), (f), an inference the spec marks as its own, from where I is written
(40_step_and_addressing.md R112, the spec's D12, log 16; 47_system_flags_stack.md R211, R212, R217, R218, R226): the
latch read at the end of CLI, SEI and PLP shows I as it was before them, at the end of RTI the restored I, at the end
of BRK I = 1. The RTI clause also rests on where its internal cycles stand, the spec's D3 (log 5). -/
def Obligations.WhenAChangeOfIActs : Prop :=
  ∀ s : State, s.interruptThisCycle = (s.nmiPending || (s.irqPending && !s.flagI)) →
    let before := s.nmiPending || (s.irqPending && !s.flagI)
    let latch (i : Instr) (b : Bool) : Prop := ∃ t, exec i s = .next t ∧ t.interruptPrevCycle = b
    latch .cli before ∧ latch .sei before ∧ latch .plp before ∧
    latch .rti (s.nmiPending || (s.irqPending && !(s.peek (stackAddr (s.sp + 1))).getLsbD 2)) ∧
    latch .brk s.nmiPending

/-- 60_exceptions.md R257, an inference the spec marks as its own: with nothing pending a completed step is the
instruction that the bytes at PC decode to, alone, whatever stale values the poll latches hold. -/
def Obligations.StaleLatchServicesNothing : Prop :=
  ∀ s t : State, s.nmiPending = false → s.irqPending = false → step s = .next t →
    ∃ i, decodeInstr [s.peek s.pc, s.peek (s.pc + 1), s.peek (s.pc + 2)] = some i ∧ exec i s.fetchOpcode = .next t

/-- 70_reset_and_hazards.md R270, R273; 10_state.md R29: `reset()` from any state, field by field: SP, I, PC, the
pending latches; nothing is pushed, no other register and no byte of memory changes. The poll latches, the bus cells
and the uncounted vector reads are the spec's D8 (log 10), `halted` its D9 (log 11). -/
def Obligations.ResetProcedure : Prop :=
  ∀ s : State, s.hostReset = { s with
    sp := 0xFD, flagI := true, pc := joinBytes (s.peek 0xFFFD) (s.peek 0xFFFC)
    nmiPending := false, irqPending := false, cycleCount := 0
    interruptThisCycle := false, interruptPrevCycle := false
    addressBus := 0xFFFD, dataBus := s.peek 0xFFFD, rwBus := true
    halted := false, trace := [] }
end

