-- ==== Sys2Proof/Laws/State.lean ====
section
/-! SUPPORT. One lemma per field per named update of State (Machine/Ops.lean), each true by rfl, so that no later
proof unfolds a record update. -/

namespace Sys2Proof.Machine

open Sys2Proof

@[simp] theorem State.setA_a (s : State) (v : Byte) : (s.setA v).a = v := rfl
@[simp] theorem State.setA_x (s : State) (v : Byte) : (s.setA v).x = s.x := rfl
@[simp] theorem State.setA_y (s : State) (v : Byte) : (s.setA v).y = s.y := rfl
@[simp] theorem State.setA_sp (s : State) (v : Byte) : (s.setA v).sp = s.sp := rfl
@[simp] theorem State.setA_pc (s : State) (v : Byte) : (s.setA v).pc = s.pc := rfl
@[simp] theorem State.setA_opcode (s : State) (v : Byte) : (s.setA v).opcode = s.opcode := rfl
@[simp] theorem State.setA_flagC (s : State) (v : Byte) : (s.setA v).flagC = s.flagC := rfl
@[simp] theorem State.setA_flagZ (s : State) (v : Byte) : (s.setA v).flagZ = s.flagZ := rfl
@[simp] theorem State.setA_flagI (s : State) (v : Byte) : (s.setA v).flagI = s.flagI := rfl
@[simp] theorem State.setA_flagD (s : State) (v : Byte) : (s.setA v).flagD = s.flagD := rfl
@[simp] theorem State.setA_flagV (s : State) (v : Byte) : (s.setA v).flagV = s.flagV := rfl
@[simp] theorem State.setA_flagN (s : State) (v : Byte) : (s.setA v).flagN = s.flagN := rfl
@[simp] theorem State.setA_cycleCount (s : State) (v : Byte) : (s.setA v).cycleCount = s.cycleCount := rfl
@[simp] theorem State.setA_irqPending (s : State) (v : Byte) : (s.setA v).irqPending = s.irqPending := rfl
@[simp] theorem State.setA_nmiPending (s : State) (v : Byte) : (s.setA v).nmiPending = s.nmiPending := rfl
@[simp] theorem State.setA_interruptThisCycle (s : State) (v : Byte) : (s.setA v).interruptThisCycle = s.interruptThisCycle := rfl
@[simp] theorem State.setA_interruptPrevCycle (s : State) (v : Byte) : (s.setA v).interruptPrevCycle = s.interruptPrevCycle := rfl
@[simp] theorem State.setA_addressBus (s : State) (v : Byte) : (s.setA v).addressBus = s.addressBus := rfl
@[simp] theorem State.setA_dataBus (s : State) (v : Byte) : (s.setA v).dataBus = s.dataBus := rfl
@[simp] theorem State.setA_rwBus (s : State) (v : Byte) : (s.setA v).rwBus = s.rwBus := rfl
@[simp] theorem State.setA_readyBus (s : State) (v : Byte) : (s.setA v).readyBus = s.readyBus := rfl
@[simp] theorem State.setA_halted (s : State) (v : Byte) : (s.setA v).halted = s.halted := rfl
@[simp] theorem State.setA_mem (s : State) (v : Byte) : (s.setA v).mem = s.mem := rfl
@[simp] theorem State.setA_trace (s : State) (v : Byte) : (s.setA v).trace = s.trace := rfl
@[simp] theorem State.setA_freeIndex (s : State) (v : Byte) : (s.setA v).freeIndex = s.freeIndex := rfl

@[simp] theorem State.setX_a (s : State) (v : Byte) : (s.setX v).a = s.a := rfl
@[simp] theorem State.setX_x (s : State) (v : Byte) : (s.setX v).x = v := rfl
@[simp] theorem State.setX_y (s : State) (v : Byte) : (s.setX v).y = s.y := rfl
@[simp] theorem State.setX_sp (s : State) (v : Byte) : (s.setX v).sp = s.sp := rfl
@[simp] theorem State.setX_pc (s : State) (v : Byte) : (s.setX v).pc = s.pc := rfl
@[simp] theorem State.setX_opcode (s : State) (v : Byte) : (s.setX v).opcode = s.opcode := rfl
@[simp] theorem State.setX_flagC (s : State) (v : Byte) : (s.setX v).flagC = s.flagC := rfl
@[simp] theorem State.setX_flagZ (s : State) (v : Byte) : (s.setX v).flagZ = s.flagZ := rfl
@[simp] theorem State.setX_flagI (s : State) (v : Byte) : (s.setX v).flagI = s.flagI := rfl
@[simp] theorem State.setX_flagD (s : State) (v : Byte) : (s.setX v).flagD = s.flagD := rfl
@[simp] theorem State.setX_flagV (s : State) (v : Byte) : (s.setX v).flagV = s.flagV := rfl
@[simp] theorem State.setX_flagN (s : State) (v : Byte) : (s.setX v).flagN = s.flagN := rfl
@[simp] theorem State.setX_cycleCount (s : State) (v : Byte) : (s.setX v).cycleCount = s.cycleCount := rfl
@[simp] theorem State.setX_irqPending (s : State) (v : Byte) : (s.setX v).irqPending = s.irqPending := rfl
@[simp] theorem State.setX_nmiPending (s : State) (v : Byte) : (s.setX v).nmiPending = s.nmiPending := rfl
@[simp] theorem State.setX_interruptThisCycle (s : State) (v : Byte) : (s.setX v).interruptThisCycle = s.interruptThisCycle := rfl
@[simp] theorem State.setX_interruptPrevCycle (s : State) (v : Byte) : (s.setX v).interruptPrevCycle = s.interruptPrevCycle := rfl
@[simp] theorem State.setX_addressBus (s : State) (v : Byte) : (s.setX v).addressBus = s.addressBus := rfl
@[simp] theorem State.setX_dataBus (s : State) (v : Byte) : (s.setX v).dataBus = s.dataBus := rfl
@[simp] theorem State.setX_rwBus (s : State) (v : Byte) : (s.setX v).rwBus = s.rwBus := rfl
@[simp] theorem State.setX_readyBus (s : State) (v : Byte) : (s.setX v).readyBus = s.readyBus := rfl
@[simp] theorem State.setX_halted (s : State) (v : Byte) : (s.setX v).halted = s.halted := rfl
@[simp] theorem State.setX_mem (s : State) (v : Byte) : (s.setX v).mem = s.mem := rfl
@[simp] theorem State.setX_trace (s : State) (v : Byte) : (s.setX v).trace = s.trace := rfl
@[simp] theorem State.setX_freeIndex (s : State) (v : Byte) : (s.setX v).freeIndex = s.freeIndex := rfl

@[simp] theorem State.setY_a (s : State) (v : Byte) : (s.setY v).a = s.a := rfl
@[simp] theorem State.setY_x (s : State) (v : Byte) : (s.setY v).x = s.x := rfl
@[simp] theorem State.setY_y (s : State) (v : Byte) : (s.setY v).y = v := rfl
@[simp] theorem State.setY_sp (s : State) (v : Byte) : (s.setY v).sp = s.sp := rfl
@[simp] theorem State.setY_pc (s : State) (v : Byte) : (s.setY v).pc = s.pc := rfl
@[simp] theorem State.setY_opcode (s : State) (v : Byte) : (s.setY v).opcode = s.opcode := rfl
@[simp] theorem State.setY_flagC (s : State) (v : Byte) : (s.setY v).flagC = s.flagC := rfl
@[simp] theorem State.setY_flagZ (s : State) (v : Byte) : (s.setY v).flagZ = s.flagZ := rfl
@[simp] theorem State.setY_flagI (s : State) (v : Byte) : (s.setY v).flagI = s.flagI := rfl
@[simp] theorem State.setY_flagD (s : State) (v : Byte) : (s.setY v).flagD = s.flagD := rfl
@[simp] theorem State.setY_flagV (s : State) (v : Byte) : (s.setY v).flagV = s.flagV := rfl
@[simp] theorem State.setY_flagN (s : State) (v : Byte) : (s.setY v).flagN = s.flagN := rfl
@[simp] theorem State.setY_cycleCount (s : State) (v : Byte) : (s.setY v).cycleCount = s.cycleCount := rfl
@[simp] theorem State.setY_irqPending (s : State) (v : Byte) : (s.setY v).irqPending = s.irqPending := rfl
@[simp] theorem State.setY_nmiPending (s : State) (v : Byte) : (s.setY v).nmiPending = s.nmiPending := rfl
@[simp] theorem State.setY_interruptThisCycle (s : State) (v : Byte) : (s.setY v).interruptThisCycle = s.interruptThisCycle := rfl
@[simp] theorem State.setY_interruptPrevCycle (s : State) (v : Byte) : (s.setY v).interruptPrevCycle = s.interruptPrevCycle := rfl
@[simp] theorem State.setY_addressBus (s : State) (v : Byte) : (s.setY v).addressBus = s.addressBus := rfl
@[simp] theorem State.setY_dataBus (s : State) (v : Byte) : (s.setY v).dataBus = s.dataBus := rfl
@[simp] theorem State.setY_rwBus (s : State) (v : Byte) : (s.setY v).rwBus = s.rwBus := rfl
@[simp] theorem State.setY_readyBus (s : State) (v : Byte) : (s.setY v).readyBus = s.readyBus := rfl
@[simp] theorem State.setY_halted (s : State) (v : Byte) : (s.setY v).halted = s.halted := rfl
@[simp] theorem State.setY_mem (s : State) (v : Byte) : (s.setY v).mem = s.mem := rfl
@[simp] theorem State.setY_trace (s : State) (v : Byte) : (s.setY v).trace = s.trace := rfl
@[simp] theorem State.setY_freeIndex (s : State) (v : Byte) : (s.setY v).freeIndex = s.freeIndex := rfl

@[simp] theorem State.setSp_a (s : State) (v : Byte) : (s.setSp v).a = s.a := rfl
@[simp] theorem State.setSp_x (s : State) (v : Byte) : (s.setSp v).x = s.x := rfl
@[simp] theorem State.setSp_y (s : State) (v : Byte) : (s.setSp v).y = s.y := rfl
@[simp] theorem State.setSp_sp (s : State) (v : Byte) : (s.setSp v).sp = v := rfl
@[simp] theorem State.setSp_pc (s : State) (v : Byte) : (s.setSp v).pc = s.pc := rfl
@[simp] theorem State.setSp_opcode (s : State) (v : Byte) : (s.setSp v).opcode = s.opcode := rfl
@[simp] theorem State.setSp_flagC (s : State) (v : Byte) : (s.setSp v).flagC = s.flagC := rfl
@[simp] theorem State.setSp_flagZ (s : State) (v : Byte) : (s.setSp v).flagZ = s.flagZ := rfl
@[simp] theorem State.setSp_flagI (s : State) (v : Byte) : (s.setSp v).flagI = s.flagI := rfl
@[simp] theorem State.setSp_flagD (s : State) (v : Byte) : (s.setSp v).flagD = s.flagD := rfl
@[simp] theorem State.setSp_flagV (s : State) (v : Byte) : (s.setSp v).flagV = s.flagV := rfl
@[simp] theorem State.setSp_flagN (s : State) (v : Byte) : (s.setSp v).flagN = s.flagN := rfl
@[simp] theorem State.setSp_cycleCount (s : State) (v : Byte) : (s.setSp v).cycleCount = s.cycleCount := rfl
@[simp] theorem State.setSp_irqPending (s : State) (v : Byte) : (s.setSp v).irqPending = s.irqPending := rfl
@[simp] theorem State.setSp_nmiPending (s : State) (v : Byte) : (s.setSp v).nmiPending = s.nmiPending := rfl
@[simp] theorem State.setSp_interruptThisCycle (s : State) (v : Byte) : (s.setSp v).interruptThisCycle = s.interruptThisCycle := rfl
@[simp] theorem State.setSp_interruptPrevCycle (s : State) (v : Byte) : (s.setSp v).interruptPrevCycle = s.interruptPrevCycle := rfl
@[simp] theorem State.setSp_addressBus (s : State) (v : Byte) : (s.setSp v).addressBus = s.addressBus := rfl
@[simp] theorem State.setSp_dataBus (s : State) (v : Byte) : (s.setSp v).dataBus = s.dataBus := rfl
@[simp] theorem State.setSp_rwBus (s : State) (v : Byte) : (s.setSp v).rwBus = s.rwBus := rfl
@[simp] theorem State.setSp_readyBus (s : State) (v : Byte) : (s.setSp v).readyBus = s.readyBus := rfl
@[simp] theorem State.setSp_halted (s : State) (v : Byte) : (s.setSp v).halted = s.halted := rfl
@[simp] theorem State.setSp_mem (s : State) (v : Byte) : (s.setSp v).mem = s.mem := rfl
@[simp] theorem State.setSp_trace (s : State) (v : Byte) : (s.setSp v).trace = s.trace := rfl
@[simp] theorem State.setSp_freeIndex (s : State) (v : Byte) : (s.setSp v).freeIndex = s.freeIndex := rfl

@[simp] theorem State.setPc_a (s : State) (v : Addr) : (s.setPc v).a = s.a := rfl
@[simp] theorem State.setPc_x (s : State) (v : Addr) : (s.setPc v).x = s.x := rfl
@[simp] theorem State.setPc_y (s : State) (v : Addr) : (s.setPc v).y = s.y := rfl
@[simp] theorem State.setPc_sp (s : State) (v : Addr) : (s.setPc v).sp = s.sp := rfl
@[simp] theorem State.setPc_pc (s : State) (v : Addr) : (s.setPc v).pc = v := rfl
@[simp] theorem State.setPc_opcode (s : State) (v : Addr) : (s.setPc v).opcode = s.opcode := rfl
@[simp] theorem State.setPc_flagC (s : State) (v : Addr) : (s.setPc v).flagC = s.flagC := rfl
@[simp] theorem State.setPc_flagZ (s : State) (v : Addr) : (s.setPc v).flagZ = s.flagZ := rfl
@[simp] theorem State.setPc_flagI (s : State) (v : Addr) : (s.setPc v).flagI = s.flagI := rfl
@[simp] theorem State.setPc_flagD (s : State) (v : Addr) : (s.setPc v).flagD = s.flagD := rfl
@[simp] theorem State.setPc_flagV (s : State) (v : Addr) : (s.setPc v).flagV = s.flagV := rfl
@[simp] theorem State.setPc_flagN (s : State) (v : Addr) : (s.setPc v).flagN = s.flagN := rfl
@[simp] theorem State.setPc_cycleCount (s : State) (v : Addr) : (s.setPc v).cycleCount = s.cycleCount := rfl
@[simp] theorem State.setPc_irqPending (s : State) (v : Addr) : (s.setPc v).irqPending = s.irqPending := rfl
@[simp] theorem State.setPc_nmiPending (s : State) (v : Addr) : (s.setPc v).nmiPending = s.nmiPending := rfl
@[simp] theorem State.setPc_interruptThisCycle (s : State) (v : Addr) : (s.setPc v).interruptThisCycle = s.interruptThisCycle := rfl
@[simp] theorem State.setPc_interruptPrevCycle (s : State) (v : Addr) : (s.setPc v).interruptPrevCycle = s.interruptPrevCycle := rfl
@[simp] theorem State.setPc_addressBus (s : State) (v : Addr) : (s.setPc v).addressBus = s.addressBus := rfl
@[simp] theorem State.setPc_dataBus (s : State) (v : Addr) : (s.setPc v).dataBus = s.dataBus := rfl
@[simp] theorem State.setPc_rwBus (s : State) (v : Addr) : (s.setPc v).rwBus = s.rwBus := rfl
@[simp] theorem State.setPc_readyBus (s : State) (v : Addr) : (s.setPc v).readyBus = s.readyBus := rfl
@[simp] theorem State.setPc_halted (s : State) (v : Addr) : (s.setPc v).halted = s.halted := rfl
@[simp] theorem State.setPc_mem (s : State) (v : Addr) : (s.setPc v).mem = s.mem := rfl
@[simp] theorem State.setPc_trace (s : State) (v : Addr) : (s.setPc v).trace = s.trace := rfl
@[simp] theorem State.setPc_freeIndex (s : State) (v : Addr) : (s.setPc v).freeIndex = s.freeIndex := rfl

@[simp] theorem State.setOpcode_a (s : State) (v : Byte) : (s.setOpcode v).a = s.a := rfl
@[simp] theorem State.setOpcode_x (s : State) (v : Byte) : (s.setOpcode v).x = s.x := rfl
@[simp] theorem State.setOpcode_y (s : State) (v : Byte) : (s.setOpcode v).y = s.y := rfl
@[simp] theorem State.setOpcode_sp (s : State) (v : Byte) : (s.setOpcode v).sp = s.sp := rfl
@[simp] theorem State.setOpcode_pc (s : State) (v : Byte) : (s.setOpcode v).pc = s.pc := rfl
@[simp] theorem State.setOpcode_opcode (s : State) (v : Byte) : (s.setOpcode v).opcode = v := rfl
@[simp] theorem State.setOpcode_flagC (s : State) (v : Byte) : (s.setOpcode v).flagC = s.flagC := rfl
@[simp] theorem State.setOpcode_flagZ (s : State) (v : Byte) : (s.setOpcode v).flagZ = s.flagZ := rfl
@[simp] theorem State.setOpcode_flagI (s : State) (v : Byte) : (s.setOpcode v).flagI = s.flagI := rfl
@[simp] theorem State.setOpcode_flagD (s : State) (v : Byte) : (s.setOpcode v).flagD = s.flagD := rfl
@[simp] theorem State.setOpcode_flagV (s : State) (v : Byte) : (s.setOpcode v).flagV = s.flagV := rfl
@[simp] theorem State.setOpcode_flagN (s : State) (v : Byte) : (s.setOpcode v).flagN = s.flagN := rfl
@[simp] theorem State.setOpcode_cycleCount (s : State) (v : Byte) : (s.setOpcode v).cycleCount = s.cycleCount := rfl
@[simp] theorem State.setOpcode_irqPending (s : State) (v : Byte) : (s.setOpcode v).irqPending = s.irqPending := rfl
@[simp] theorem State.setOpcode_nmiPending (s : State) (v : Byte) : (s.setOpcode v).nmiPending = s.nmiPending := rfl
@[simp] theorem State.setOpcode_interruptThisCycle (s : State) (v : Byte) : (s.setOpcode v).interruptThisCycle = s.interruptThisCycle := rfl
@[simp] theorem State.setOpcode_interruptPrevCycle (s : State) (v : Byte) : (s.setOpcode v).interruptPrevCycle = s.interruptPrevCycle := rfl
@[simp] theorem State.setOpcode_addressBus (s : State) (v : Byte) : (s.setOpcode v).addressBus = s.addressBus := rfl
@[simp] theorem State.setOpcode_dataBus (s : State) (v : Byte) : (s.setOpcode v).dataBus = s.dataBus := rfl
@[simp] theorem State.setOpcode_rwBus (s : State) (v : Byte) : (s.setOpcode v).rwBus = s.rwBus := rfl
@[simp] theorem State.setOpcode_readyBus (s : State) (v : Byte) : (s.setOpcode v).readyBus = s.readyBus := rfl
@[simp] theorem State.setOpcode_halted (s : State) (v : Byte) : (s.setOpcode v).halted = s.halted := rfl
@[simp] theorem State.setOpcode_mem (s : State) (v : Byte) : (s.setOpcode v).mem = s.mem := rfl
@[simp] theorem State.setOpcode_trace (s : State) (v : Byte) : (s.setOpcode v).trace = s.trace := rfl
@[simp] theorem State.setOpcode_freeIndex (s : State) (v : Byte) : (s.setOpcode v).freeIndex = s.freeIndex := rfl

@[simp] theorem State.setC_a (s : State) (v : Bool) : (s.setC v).a = s.a := rfl
@[simp] theorem State.setC_x (s : State) (v : Bool) : (s.setC v).x = s.x := rfl
@[simp] theorem State.setC_y (s : State) (v : Bool) : (s.setC v).y = s.y := rfl
@[simp] theorem State.setC_sp (s : State) (v : Bool) : (s.setC v).sp = s.sp := rfl
@[simp] theorem State.setC_pc (s : State) (v : Bool) : (s.setC v).pc = s.pc := rfl
@[simp] theorem State.setC_opcode (s : State) (v : Bool) : (s.setC v).opcode = s.opcode := rfl
@[simp] theorem State.setC_flagC (s : State) (v : Bool) : (s.setC v).flagC = v := rfl
@[simp] theorem State.setC_flagZ (s : State) (v : Bool) : (s.setC v).flagZ = s.flagZ := rfl
@[simp] theorem State.setC_flagI (s : State) (v : Bool) : (s.setC v).flagI = s.flagI := rfl
@[simp] theorem State.setC_flagD (s : State) (v : Bool) : (s.setC v).flagD = s.flagD := rfl
@[simp] theorem State.setC_flagV (s : State) (v : Bool) : (s.setC v).flagV = s.flagV := rfl
@[simp] theorem State.setC_flagN (s : State) (v : Bool) : (s.setC v).flagN = s.flagN := rfl
@[simp] theorem State.setC_cycleCount (s : State) (v : Bool) : (s.setC v).cycleCount = s.cycleCount := rfl
@[simp] theorem State.setC_irqPending (s : State) (v : Bool) : (s.setC v).irqPending = s.irqPending := rfl
@[simp] theorem State.setC_nmiPending (s : State) (v : Bool) : (s.setC v).nmiPending = s.nmiPending := rfl
@[simp] theorem State.setC_interruptThisCycle (s : State) (v : Bool) : (s.setC v).interruptThisCycle = s.interruptThisCycle := rfl
@[simp] theorem State.setC_interruptPrevCycle (s : State) (v : Bool) : (s.setC v).interruptPrevCycle = s.interruptPrevCycle := rfl
@[simp] theorem State.setC_addressBus (s : State) (v : Bool) : (s.setC v).addressBus = s.addressBus := rfl
@[simp] theorem State.setC_dataBus (s : State) (v : Bool) : (s.setC v).dataBus = s.dataBus := rfl
@[simp] theorem State.setC_rwBus (s : State) (v : Bool) : (s.setC v).rwBus = s.rwBus := rfl
@[simp] theorem State.setC_readyBus (s : State) (v : Bool) : (s.setC v).readyBus = s.readyBus := rfl
@[simp] theorem State.setC_halted (s : State) (v : Bool) : (s.setC v).halted = s.halted := rfl
@[simp] theorem State.setC_mem (s : State) (v : Bool) : (s.setC v).mem = s.mem := rfl
@[simp] theorem State.setC_trace (s : State) (v : Bool) : (s.setC v).trace = s.trace := rfl
@[simp] theorem State.setC_freeIndex (s : State) (v : Bool) : (s.setC v).freeIndex = s.freeIndex := rfl

@[simp] theorem State.setZ_a (s : State) (v : Bool) : (s.setZ v).a = s.a := rfl
@[simp] theorem State.setZ_x (s : State) (v : Bool) : (s.setZ v).x = s.x := rfl
@[simp] theorem State.setZ_y (s : State) (v : Bool) : (s.setZ v).y = s.y := rfl
@[simp] theorem State.setZ_sp (s : State) (v : Bool) : (s.setZ v).sp = s.sp := rfl
@[simp] theorem State.setZ_pc (s : State) (v : Bool) : (s.setZ v).pc = s.pc := rfl
@[simp] theorem State.setZ_opcode (s : State) (v : Bool) : (s.setZ v).opcode = s.opcode := rfl
@[simp] theorem State.setZ_flagC (s : State) (v : Bool) : (s.setZ v).flagC = s.flagC := rfl
@[simp] theorem State.setZ_flagZ (s : State) (v : Bool) : (s.setZ v).flagZ = v := rfl
@[simp] theorem State.setZ_flagI (s : State) (v : Bool) : (s.setZ v).flagI = s.flagI := rfl
@[simp] theorem State.setZ_flagD (s : State) (v : Bool) : (s.setZ v).flagD = s.flagD := rfl
@[simp] theorem State.setZ_flagV (s : State) (v : Bool) : (s.setZ v).flagV = s.flagV := rfl
@[simp] theorem State.setZ_flagN (s : State) (v : Bool) : (s.setZ v).flagN = s.flagN := rfl
@[simp] theorem State.setZ_cycleCount (s : State) (v : Bool) : (s.setZ v).cycleCount = s.cycleCount := rfl
@[simp] theorem State.setZ_irqPending (s : State) (v : Bool) : (s.setZ v).irqPending = s.irqPending := rfl
@[simp] theorem State.setZ_nmiPending (s : State) (v : Bool) : (s.setZ v).nmiPending = s.nmiPending := rfl
@[simp] theorem State.setZ_interruptThisCycle (s : State) (v : Bool) : (s.setZ v).interruptThisCycle = s.interruptThisCycle := rfl
@[simp] theorem State.setZ_interruptPrevCycle (s : State) (v : Bool) : (s.setZ v).interruptPrevCycle = s.interruptPrevCycle := rfl
@[simp] theorem State.setZ_addressBus (s : State) (v : Bool) : (s.setZ v).addressBus = s.addressBus := rfl
@[simp] theorem State.setZ_dataBus (s : State) (v : Bool) : (s.setZ v).dataBus = s.dataBus := rfl
@[simp] theorem State.setZ_rwBus (s : State) (v : Bool) : (s.setZ v).rwBus = s.rwBus := rfl
@[simp] theorem State.setZ_readyBus (s : State) (v : Bool) : (s.setZ v).readyBus = s.readyBus := rfl
@[simp] theorem State.setZ_halted (s : State) (v : Bool) : (s.setZ v).halted = s.halted := rfl
@[simp] theorem State.setZ_mem (s : State) (v : Bool) : (s.setZ v).mem = s.mem := rfl
@[simp] theorem State.setZ_trace (s : State) (v : Bool) : (s.setZ v).trace = s.trace := rfl
@[simp] theorem State.setZ_freeIndex (s : State) (v : Bool) : (s.setZ v).freeIndex = s.freeIndex := rfl

@[simp] theorem State.setI_a (s : State) (v : Bool) : (s.setI v).a = s.a := rfl
@[simp] theorem State.setI_x (s : State) (v : Bool) : (s.setI v).x = s.x := rfl
@[simp] theorem State.setI_y (s : State) (v : Bool) : (s.setI v).y = s.y := rfl
@[simp] theorem State.setI_sp (s : State) (v : Bool) : (s.setI v).sp = s.sp := rfl
@[simp] theorem State.setI_pc (s : State) (v : Bool) : (s.setI v).pc = s.pc := rfl
@[simp] theorem State.setI_opcode (s : State) (v : Bool) : (s.setI v).opcode = s.opcode := rfl
@[simp] theorem State.setI_flagC (s : State) (v : Bool) : (s.setI v).flagC = s.flagC := rfl
@[simp] theorem State.setI_flagZ (s : State) (v : Bool) : (s.setI v).flagZ = s.flagZ := rfl
@[simp] theorem State.setI_flagI (s : State) (v : Bool) : (s.setI v).flagI = v := rfl
@[simp] theorem State.setI_flagD (s : State) (v : Bool) : (s.setI v).flagD = s.flagD := rfl
@[simp] theorem State.setI_flagV (s : State) (v : Bool) : (s.setI v).flagV = s.flagV := rfl
@[simp] theorem State.setI_flagN (s : State) (v : Bool) : (s.setI v).flagN = s.flagN := rfl
@[simp] theorem State.setI_cycleCount (s : State) (v : Bool) : (s.setI v).cycleCount = s.cycleCount := rfl
@[simp] theorem State.setI_irqPending (s : State) (v : Bool) : (s.setI v).irqPending = s.irqPending := rfl
@[simp] theorem State.setI_nmiPending (s : State) (v : Bool) : (s.setI v).nmiPending = s.nmiPending := rfl
@[simp] theorem State.setI_interruptThisCycle (s : State) (v : Bool) : (s.setI v).interruptThisCycle = s.interruptThisCycle := rfl
@[simp] theorem State.setI_interruptPrevCycle (s : State) (v : Bool) : (s.setI v).interruptPrevCycle = s.interruptPrevCycle := rfl
@[simp] theorem State.setI_addressBus (s : State) (v : Bool) : (s.setI v).addressBus = s.addressBus := rfl
@[simp] theorem State.setI_dataBus (s : State) (v : Bool) : (s.setI v).dataBus = s.dataBus := rfl
@[simp] theorem State.setI_rwBus (s : State) (v : Bool) : (s.setI v).rwBus = s.rwBus := rfl
@[simp] theorem State.setI_readyBus (s : State) (v : Bool) : (s.setI v).readyBus = s.readyBus := rfl
@[simp] theorem State.setI_halted (s : State) (v : Bool) : (s.setI v).halted = s.halted := rfl
@[simp] theorem State.setI_mem (s : State) (v : Bool) : (s.setI v).mem = s.mem := rfl
@[simp] theorem State.setI_trace (s : State) (v : Bool) : (s.setI v).trace = s.trace := rfl
@[simp] theorem State.setI_freeIndex (s : State) (v : Bool) : (s.setI v).freeIndex = s.freeIndex := rfl

@[simp] theorem State.setD_a (s : State) (v : Bool) : (s.setD v).a = s.a := rfl
@[simp] theorem State.setD_x (s : State) (v : Bool) : (s.setD v).x = s.x := rfl
@[simp] theorem State.setD_y (s : State) (v : Bool) : (s.setD v).y = s.y := rfl
@[simp] theorem State.setD_sp (s : State) (v : Bool) : (s.setD v).sp = s.sp := rfl
@[simp] theorem State.setD_pc (s : State) (v : Bool) : (s.setD v).pc = s.pc := rfl
@[simp] theorem State.setD_opcode (s : State) (v : Bool) : (s.setD v).opcode = s.opcode := rfl
@[simp] theorem State.setD_flagC (s : State) (v : Bool) : (s.setD v).flagC = s.flagC := rfl
@[simp] theorem State.setD_flagZ (s : State) (v : Bool) : (s.setD v).flagZ = s.flagZ := rfl
@[simp] theorem State.setD_flagI (s : State) (v : Bool) : (s.setD v).flagI = s.flagI := rfl
@[simp] theorem State.setD_flagD (s : State) (v : Bool) : (s.setD v).flagD = v := rfl
@[simp] theorem State.setD_flagV (s : State) (v : Bool) : (s.setD v).flagV = s.flagV := rfl
@[simp] theorem State.setD_flagN (s : State) (v : Bool) : (s.setD v).flagN = s.flagN := rfl
@[simp] theorem State.setD_cycleCount (s : State) (v : Bool) : (s.setD v).cycleCount = s.cycleCount := rfl
@[simp] theorem State.setD_irqPending (s : State) (v : Bool) : (s.setD v).irqPending = s.irqPending := rfl
@[simp] theorem State.setD_nmiPending (s : State) (v : Bool) : (s.setD v).nmiPending = s.nmiPending := rfl
@[simp] theorem State.setD_interruptThisCycle (s : State) (v : Bool) : (s.setD v).interruptThisCycle = s.interruptThisCycle := rfl
@[simp] theorem State.setD_interruptPrevCycle (s : State) (v : Bool) : (s.setD v).interruptPrevCycle = s.interruptPrevCycle := rfl
@[simp] theorem State.setD_addressBus (s : State) (v : Bool) : (s.setD v).addressBus = s.addressBus := rfl
@[simp] theorem State.setD_dataBus (s : State) (v : Bool) : (s.setD v).dataBus = s.dataBus := rfl
@[simp] theorem State.setD_rwBus (s : State) (v : Bool) : (s.setD v).rwBus = s.rwBus := rfl
@[simp] theorem State.setD_readyBus (s : State) (v : Bool) : (s.setD v).readyBus = s.readyBus := rfl
@[simp] theorem State.setD_halted (s : State) (v : Bool) : (s.setD v).halted = s.halted := rfl
@[simp] theorem State.setD_mem (s : State) (v : Bool) : (s.setD v).mem = s.mem := rfl
@[simp] theorem State.setD_trace (s : State) (v : Bool) : (s.setD v).trace = s.trace := rfl
@[simp] theorem State.setD_freeIndex (s : State) (v : Bool) : (s.setD v).freeIndex = s.freeIndex := rfl

@[simp] theorem State.setV_a (s : State) (v : Bool) : (s.setV v).a = s.a := rfl
@[simp] theorem State.setV_x (s : State) (v : Bool) : (s.setV v).x = s.x := rfl
@[simp] theorem State.setV_y (s : State) (v : Bool) : (s.setV v).y = s.y := rfl
@[simp] theorem State.setV_sp (s : State) (v : Bool) : (s.setV v).sp = s.sp := rfl
@[simp] theorem State.setV_pc (s : State) (v : Bool) : (s.setV v).pc = s.pc := rfl
@[simp] theorem State.setV_opcode (s : State) (v : Bool) : (s.setV v).opcode = s.opcode := rfl
@[simp] theorem State.setV_flagC (s : State) (v : Bool) : (s.setV v).flagC = s.flagC := rfl
@[simp] theorem State.setV_flagZ (s : State) (v : Bool) : (s.setV v).flagZ = s.flagZ := rfl
@[simp] theorem State.setV_flagI (s : State) (v : Bool) : (s.setV v).flagI = s.flagI := rfl
@[simp] theorem State.setV_flagD (s : State) (v : Bool) : (s.setV v).flagD = s.flagD := rfl
@[simp] theorem State.setV_flagV (s : State) (v : Bool) : (s.setV v).flagV = v := rfl
@[simp] theorem State.setV_flagN (s : State) (v : Bool) : (s.setV v).flagN = s.flagN := rfl
@[simp] theorem State.setV_cycleCount (s : State) (v : Bool) : (s.setV v).cycleCount = s.cycleCount := rfl
@[simp] theorem State.setV_irqPending (s : State) (v : Bool) : (s.setV v).irqPending = s.irqPending := rfl
@[simp] theorem State.setV_nmiPending (s : State) (v : Bool) : (s.setV v).nmiPending = s.nmiPending := rfl
@[simp] theorem State.setV_interruptThisCycle (s : State) (v : Bool) : (s.setV v).interruptThisCycle = s.interruptThisCycle := rfl
@[simp] theorem State.setV_interruptPrevCycle (s : State) (v : Bool) : (s.setV v).interruptPrevCycle = s.interruptPrevCycle := rfl
@[simp] theorem State.setV_addressBus (s : State) (v : Bool) : (s.setV v).addressBus = s.addressBus := rfl
@[simp] theorem State.setV_dataBus (s : State) (v : Bool) : (s.setV v).dataBus = s.dataBus := rfl
@[simp] theorem State.setV_rwBus (s : State) (v : Bool) : (s.setV v).rwBus = s.rwBus := rfl
@[simp] theorem State.setV_readyBus (s : State) (v : Bool) : (s.setV v).readyBus = s.readyBus := rfl
@[simp] theorem State.setV_halted (s : State) (v : Bool) : (s.setV v).halted = s.halted := rfl
@[simp] theorem State.setV_mem (s : State) (v : Bool) : (s.setV v).mem = s.mem := rfl
@[simp] theorem State.setV_trace (s : State) (v : Bool) : (s.setV v).trace = s.trace := rfl
@[simp] theorem State.setV_freeIndex (s : State) (v : Bool) : (s.setV v).freeIndex = s.freeIndex := rfl

@[simp] theorem State.setN_a (s : State) (v : Bool) : (s.setN v).a = s.a := rfl
@[simp] theorem State.setN_x (s : State) (v : Bool) : (s.setN v).x = s.x := rfl
@[simp] theorem State.setN_y (s : State) (v : Bool) : (s.setN v).y = s.y := rfl
@[simp] theorem State.setN_sp (s : State) (v : Bool) : (s.setN v).sp = s.sp := rfl
@[simp] theorem State.setN_pc (s : State) (v : Bool) : (s.setN v).pc = s.pc := rfl
@[simp] theorem State.setN_opcode (s : State) (v : Bool) : (s.setN v).opcode = s.opcode := rfl
@[simp] theorem State.setN_flagC (s : State) (v : Bool) : (s.setN v).flagC = s.flagC := rfl
@[simp] theorem State.setN_flagZ (s : State) (v : Bool) : (s.setN v).flagZ = s.flagZ := rfl
@[simp] theorem State.setN_flagI (s : State) (v : Bool) : (s.setN v).flagI = s.flagI := rfl
@[simp] theorem State.setN_flagD (s : State) (v : Bool) : (s.setN v).flagD = s.flagD := rfl
@[simp] theorem State.setN_flagV (s : State) (v : Bool) : (s.setN v).flagV = s.flagV := rfl
@[simp] theorem State.setN_flagN (s : State) (v : Bool) : (s.setN v).flagN = v := rfl
@[simp] theorem State.setN_cycleCount (s : State) (v : Bool) : (s.setN v).cycleCount = s.cycleCount := rfl
@[simp] theorem State.setN_irqPending (s : State) (v : Bool) : (s.setN v).irqPending = s.irqPending := rfl
@[simp] theorem State.setN_nmiPending (s : State) (v : Bool) : (s.setN v).nmiPending = s.nmiPending := rfl
@[simp] theorem State.setN_interruptThisCycle (s : State) (v : Bool) : (s.setN v).interruptThisCycle = s.interruptThisCycle := rfl
@[simp] theorem State.setN_interruptPrevCycle (s : State) (v : Bool) : (s.setN v).interruptPrevCycle = s.interruptPrevCycle := rfl
@[simp] theorem State.setN_addressBus (s : State) (v : Bool) : (s.setN v).addressBus = s.addressBus := rfl
@[simp] theorem State.setN_dataBus (s : State) (v : Bool) : (s.setN v).dataBus = s.dataBus := rfl
@[simp] theorem State.setN_rwBus (s : State) (v : Bool) : (s.setN v).rwBus = s.rwBus := rfl
@[simp] theorem State.setN_readyBus (s : State) (v : Bool) : (s.setN v).readyBus = s.readyBus := rfl
@[simp] theorem State.setN_halted (s : State) (v : Bool) : (s.setN v).halted = s.halted := rfl
@[simp] theorem State.setN_mem (s : State) (v : Bool) : (s.setN v).mem = s.mem := rfl
@[simp] theorem State.setN_trace (s : State) (v : Bool) : (s.setN v).trace = s.trace := rfl
@[simp] theorem State.setN_freeIndex (s : State) (v : Bool) : (s.setN v).freeIndex = s.freeIndex := rfl

@[simp] theorem State.setIrq_a (s : State) (v : Bool) : (s.setIrq v).a = s.a := rfl
@[simp] theorem State.setIrq_x (s : State) (v : Bool) : (s.setIrq v).x = s.x := rfl
@[simp] theorem State.setIrq_y (s : State) (v : Bool) : (s.setIrq v).y = s.y := rfl
@[simp] theorem State.setIrq_sp (s : State) (v : Bool) : (s.setIrq v).sp = s.sp := rfl
@[simp] theorem State.setIrq_pc (s : State) (v : Bool) : (s.setIrq v).pc = s.pc := rfl
@[simp] theorem State.setIrq_opcode (s : State) (v : Bool) : (s.setIrq v).opcode = s.opcode := rfl
@[simp] theorem State.setIrq_flagC (s : State) (v : Bool) : (s.setIrq v).flagC = s.flagC := rfl
@[simp] theorem State.setIrq_flagZ (s : State) (v : Bool) : (s.setIrq v).flagZ = s.flagZ := rfl
@[simp] theorem State.setIrq_flagI (s : State) (v : Bool) : (s.setIrq v).flagI = s.flagI := rfl
@[simp] theorem State.setIrq_flagD (s : State) (v : Bool) : (s.setIrq v).flagD = s.flagD := rfl
@[simp] theorem State.setIrq_flagV (s : State) (v : Bool) : (s.setIrq v).flagV = s.flagV := rfl
@[simp] theorem State.setIrq_flagN (s : State) (v : Bool) : (s.setIrq v).flagN = s.flagN := rfl
@[simp] theorem State.setIrq_cycleCount (s : State) (v : Bool) : (s.setIrq v).cycleCount = s.cycleCount := rfl
@[simp] theorem State.setIrq_irqPending (s : State) (v : Bool) : (s.setIrq v).irqPending = v := rfl
@[simp] theorem State.setIrq_nmiPending (s : State) (v : Bool) : (s.setIrq v).nmiPending = s.nmiPending := rfl
@[simp] theorem State.setIrq_interruptThisCycle (s : State) (v : Bool) : (s.setIrq v).interruptThisCycle = s.interruptThisCycle := rfl
@[simp] theorem State.setIrq_interruptPrevCycle (s : State) (v : Bool) : (s.setIrq v).interruptPrevCycle = s.interruptPrevCycle := rfl
@[simp] theorem State.setIrq_addressBus (s : State) (v : Bool) : (s.setIrq v).addressBus = s.addressBus := rfl
@[simp] theorem State.setIrq_dataBus (s : State) (v : Bool) : (s.setIrq v).dataBus = s.dataBus := rfl
@[simp] theorem State.setIrq_rwBus (s : State) (v : Bool) : (s.setIrq v).rwBus = s.rwBus := rfl
@[simp] theorem State.setIrq_readyBus (s : State) (v : Bool) : (s.setIrq v).readyBus = s.readyBus := rfl
@[simp] theorem State.setIrq_halted (s : State) (v : Bool) : (s.setIrq v).halted = s.halted := rfl
@[simp] theorem State.setIrq_mem (s : State) (v : Bool) : (s.setIrq v).mem = s.mem := rfl
@[simp] theorem State.setIrq_trace (s : State) (v : Bool) : (s.setIrq v).trace = s.trace := rfl
@[simp] theorem State.setIrq_freeIndex (s : State) (v : Bool) : (s.setIrq v).freeIndex = s.freeIndex := rfl

@[simp] theorem State.setNmi_a (s : State) (v : Bool) : (s.setNmi v).a = s.a := rfl
@[simp] theorem State.setNmi_x (s : State) (v : Bool) : (s.setNmi v).x = s.x := rfl
@[simp] theorem State.setNmi_y (s : State) (v : Bool) : (s.setNmi v).y = s.y := rfl
@[simp] theorem State.setNmi_sp (s : State) (v : Bool) : (s.setNmi v).sp = s.sp := rfl
@[simp] theorem State.setNmi_pc (s : State) (v : Bool) : (s.setNmi v).pc = s.pc := rfl
@[simp] theorem State.setNmi_opcode (s : State) (v : Bool) : (s.setNmi v).opcode = s.opcode := rfl
@[simp] theorem State.setNmi_flagC (s : State) (v : Bool) : (s.setNmi v).flagC = s.flagC := rfl
@[simp] theorem State.setNmi_flagZ (s : State) (v : Bool) : (s.setNmi v).flagZ = s.flagZ := rfl
@[simp] theorem State.setNmi_flagI (s : State) (v : Bool) : (s.setNmi v).flagI = s.flagI := rfl
@[simp] theorem State.setNmi_flagD (s : State) (v : Bool) : (s.setNmi v).flagD = s.flagD := rfl
@[simp] theorem State.setNmi_flagV (s : State) (v : Bool) : (s.setNmi v).flagV = s.flagV := rfl
@[simp] theorem State.setNmi_flagN (s : State) (v : Bool) : (s.setNmi v).flagN = s.flagN := rfl
@[simp] theorem State.setNmi_cycleCount (s : State) (v : Bool) : (s.setNmi v).cycleCount = s.cycleCount := rfl
@[simp] theorem State.setNmi_irqPending (s : State) (v : Bool) : (s.setNmi v).irqPending = s.irqPending := rfl
@[simp] theorem State.setNmi_nmiPending (s : State) (v : Bool) : (s.setNmi v).nmiPending = v := rfl
@[simp] theorem State.setNmi_interruptThisCycle (s : State) (v : Bool) : (s.setNmi v).interruptThisCycle = s.interruptThisCycle := rfl
@[simp] theorem State.setNmi_interruptPrevCycle (s : State) (v : Bool) : (s.setNmi v).interruptPrevCycle = s.interruptPrevCycle := rfl
@[simp] theorem State.setNmi_addressBus (s : State) (v : Bool) : (s.setNmi v).addressBus = s.addressBus := rfl
@[simp] theorem State.setNmi_dataBus (s : State) (v : Bool) : (s.setNmi v).dataBus = s.dataBus := rfl
@[simp] theorem State.setNmi_rwBus (s : State) (v : Bool) : (s.setNmi v).rwBus = s.rwBus := rfl
@[simp] theorem State.setNmi_readyBus (s : State) (v : Bool) : (s.setNmi v).readyBus = s.readyBus := rfl
@[simp] theorem State.setNmi_halted (s : State) (v : Bool) : (s.setNmi v).halted = s.halted := rfl
@[simp] theorem State.setNmi_mem (s : State) (v : Bool) : (s.setNmi v).mem = s.mem := rfl
@[simp] theorem State.setNmi_trace (s : State) (v : Bool) : (s.setNmi v).trace = s.trace := rfl
@[simp] theorem State.setNmi_freeIndex (s : State) (v : Bool) : (s.setNmi v).freeIndex = s.freeIndex := rfl

@[simp] theorem State.setPrev_a (s : State) (v : Bool) : (s.setPrev v).a = s.a := rfl
@[simp] theorem State.setPrev_x (s : State) (v : Bool) : (s.setPrev v).x = s.x := rfl
@[simp] theorem State.setPrev_y (s : State) (v : Bool) : (s.setPrev v).y = s.y := rfl
@[simp] theorem State.setPrev_sp (s : State) (v : Bool) : (s.setPrev v).sp = s.sp := rfl
@[simp] theorem State.setPrev_pc (s : State) (v : Bool) : (s.setPrev v).pc = s.pc := rfl
@[simp] theorem State.setPrev_opcode (s : State) (v : Bool) : (s.setPrev v).opcode = s.opcode := rfl
@[simp] theorem State.setPrev_flagC (s : State) (v : Bool) : (s.setPrev v).flagC = s.flagC := rfl
@[simp] theorem State.setPrev_flagZ (s : State) (v : Bool) : (s.setPrev v).flagZ = s.flagZ := rfl
@[simp] theorem State.setPrev_flagI (s : State) (v : Bool) : (s.setPrev v).flagI = s.flagI := rfl
@[simp] theorem State.setPrev_flagD (s : State) (v : Bool) : (s.setPrev v).flagD = s.flagD := rfl
@[simp] theorem State.setPrev_flagV (s : State) (v : Bool) : (s.setPrev v).flagV = s.flagV := rfl
@[simp] theorem State.setPrev_flagN (s : State) (v : Bool) : (s.setPrev v).flagN = s.flagN := rfl
@[simp] theorem State.setPrev_cycleCount (s : State) (v : Bool) : (s.setPrev v).cycleCount = s.cycleCount := rfl
@[simp] theorem State.setPrev_irqPending (s : State) (v : Bool) : (s.setPrev v).irqPending = s.irqPending := rfl
@[simp] theorem State.setPrev_nmiPending (s : State) (v : Bool) : (s.setPrev v).nmiPending = s.nmiPending := rfl
@[simp] theorem State.setPrev_interruptThisCycle (s : State) (v : Bool) : (s.setPrev v).interruptThisCycle = s.interruptThisCycle := rfl
@[simp] theorem State.setPrev_interruptPrevCycle (s : State) (v : Bool) : (s.setPrev v).interruptPrevCycle = v := rfl
@[simp] theorem State.setPrev_addressBus (s : State) (v : Bool) : (s.setPrev v).addressBus = s.addressBus := rfl
@[simp] theorem State.setPrev_dataBus (s : State) (v : Bool) : (s.setPrev v).dataBus = s.dataBus := rfl
@[simp] theorem State.setPrev_rwBus (s : State) (v : Bool) : (s.setPrev v).rwBus = s.rwBus := rfl
@[simp] theorem State.setPrev_readyBus (s : State) (v : Bool) : (s.setPrev v).readyBus = s.readyBus := rfl
@[simp] theorem State.setPrev_halted (s : State) (v : Bool) : (s.setPrev v).halted = s.halted := rfl
@[simp] theorem State.setPrev_mem (s : State) (v : Bool) : (s.setPrev v).mem = s.mem := rfl
@[simp] theorem State.setPrev_trace (s : State) (v : Bool) : (s.setPrev v).trace = s.trace := rfl
@[simp] theorem State.setPrev_freeIndex (s : State) (v : Bool) : (s.setPrev v).freeIndex = s.freeIndex := rfl

@[simp] theorem State.setHalted_a (s : State) (v : Bool) : (s.setHalted v).a = s.a := rfl
@[simp] theorem State.setHalted_x (s : State) (v : Bool) : (s.setHalted v).x = s.x := rfl
@[simp] theorem State.setHalted_y (s : State) (v : Bool) : (s.setHalted v).y = s.y := rfl
@[simp] theorem State.setHalted_sp (s : State) (v : Bool) : (s.setHalted v).sp = s.sp := rfl
@[simp] theorem State.setHalted_pc (s : State) (v : Bool) : (s.setHalted v).pc = s.pc := rfl
@[simp] theorem State.setHalted_opcode (s : State) (v : Bool) : (s.setHalted v).opcode = s.opcode := rfl
@[simp] theorem State.setHalted_flagC (s : State) (v : Bool) : (s.setHalted v).flagC = s.flagC := rfl
@[simp] theorem State.setHalted_flagZ (s : State) (v : Bool) : (s.setHalted v).flagZ = s.flagZ := rfl
@[simp] theorem State.setHalted_flagI (s : State) (v : Bool) : (s.setHalted v).flagI = s.flagI := rfl
@[simp] theorem State.setHalted_flagD (s : State) (v : Bool) : (s.setHalted v).flagD = s.flagD := rfl
@[simp] theorem State.setHalted_flagV (s : State) (v : Bool) : (s.setHalted v).flagV = s.flagV := rfl
@[simp] theorem State.setHalted_flagN (s : State) (v : Bool) : (s.setHalted v).flagN = s.flagN := rfl
@[simp] theorem State.setHalted_cycleCount (s : State) (v : Bool) : (s.setHalted v).cycleCount = s.cycleCount := rfl
@[simp] theorem State.setHalted_irqPending (s : State) (v : Bool) : (s.setHalted v).irqPending = s.irqPending := rfl
@[simp] theorem State.setHalted_nmiPending (s : State) (v : Bool) : (s.setHalted v).nmiPending = s.nmiPending := rfl
@[simp] theorem State.setHalted_interruptThisCycle (s : State) (v : Bool) : (s.setHalted v).interruptThisCycle = s.interruptThisCycle := rfl
@[simp] theorem State.setHalted_interruptPrevCycle (s : State) (v : Bool) : (s.setHalted v).interruptPrevCycle = s.interruptPrevCycle := rfl
@[simp] theorem State.setHalted_addressBus (s : State) (v : Bool) : (s.setHalted v).addressBus = s.addressBus := rfl
@[simp] theorem State.setHalted_dataBus (s : State) (v : Bool) : (s.setHalted v).dataBus = s.dataBus := rfl
@[simp] theorem State.setHalted_rwBus (s : State) (v : Bool) : (s.setHalted v).rwBus = s.rwBus := rfl
@[simp] theorem State.setHalted_readyBus (s : State) (v : Bool) : (s.setHalted v).readyBus = s.readyBus := rfl
@[simp] theorem State.setHalted_halted (s : State) (v : Bool) : (s.setHalted v).halted = v := rfl
@[simp] theorem State.setHalted_mem (s : State) (v : Bool) : (s.setHalted v).mem = s.mem := rfl
@[simp] theorem State.setHalted_trace (s : State) (v : Bool) : (s.setHalted v).trace = s.trace := rfl
@[simp] theorem State.setHalted_freeIndex (s : State) (v : Bool) : (s.setHalted v).freeIndex = s.freeIndex := rfl

@[simp] theorem State.useFree_a (s : State) : s.useFree.a = s.a := rfl
@[simp] theorem State.useFree_x (s : State) : s.useFree.x = s.x := rfl
@[simp] theorem State.useFree_y (s : State) : s.useFree.y = s.y := rfl
@[simp] theorem State.useFree_sp (s : State) : s.useFree.sp = s.sp := rfl
@[simp] theorem State.useFree_pc (s : State) : s.useFree.pc = s.pc := rfl
@[simp] theorem State.useFree_opcode (s : State) : s.useFree.opcode = s.opcode := rfl
@[simp] theorem State.useFree_flagC (s : State) : s.useFree.flagC = s.flagC := rfl
@[simp] theorem State.useFree_flagZ (s : State) : s.useFree.flagZ = s.flagZ := rfl
@[simp] theorem State.useFree_flagI (s : State) : s.useFree.flagI = s.flagI := rfl
@[simp] theorem State.useFree_flagD (s : State) : s.useFree.flagD = s.flagD := rfl
@[simp] theorem State.useFree_flagV (s : State) : s.useFree.flagV = s.flagV := rfl
@[simp] theorem State.useFree_flagN (s : State) : s.useFree.flagN = s.flagN := rfl
@[simp] theorem State.useFree_cycleCount (s : State) : s.useFree.cycleCount = s.cycleCount := rfl
@[simp] theorem State.useFree_irqPending (s : State) : s.useFree.irqPending = s.irqPending := rfl
@[simp] theorem State.useFree_nmiPending (s : State) : s.useFree.nmiPending = s.nmiPending := rfl
@[simp] theorem State.useFree_interruptThisCycle (s : State) : s.useFree.interruptThisCycle = s.interruptThisCycle := rfl
@[simp] theorem State.useFree_interruptPrevCycle (s : State) : s.useFree.interruptPrevCycle = s.interruptPrevCycle := rfl
@[simp] theorem State.useFree_addressBus (s : State) : s.useFree.addressBus = s.addressBus := rfl
@[simp] theorem State.useFree_dataBus (s : State) : s.useFree.dataBus = s.dataBus := rfl
@[simp] theorem State.useFree_rwBus (s : State) : s.useFree.rwBus = s.rwBus := rfl
@[simp] theorem State.useFree_readyBus (s : State) : s.useFree.readyBus = s.readyBus := rfl
@[simp] theorem State.useFree_halted (s : State) : s.useFree.halted = s.halted := rfl
@[simp] theorem State.useFree_mem (s : State) : s.useFree.mem = s.mem := rfl
@[simp] theorem State.useFree_trace (s : State) : s.useFree.trace = s.trace := rfl
@[simp] theorem State.useFree_freeIndex (s : State) : s.useFree.freeIndex = s.freeIndex + 1 := rfl

@[simp] theorem State.poke_a (s : State) (a : Addr) (v : Byte) : (s.poke a v).a = s.a := rfl
@[simp] theorem State.poke_x (s : State) (a : Addr) (v : Byte) : (s.poke a v).x = s.x := rfl
@[simp] theorem State.poke_y (s : State) (a : Addr) (v : Byte) : (s.poke a v).y = s.y := rfl
@[simp] theorem State.poke_sp (s : State) (a : Addr) (v : Byte) : (s.poke a v).sp = s.sp := rfl
@[simp] theorem State.poke_pc (s : State) (a : Addr) (v : Byte) : (s.poke a v).pc = s.pc := rfl
@[simp] theorem State.poke_opcode (s : State) (a : Addr) (v : Byte) : (s.poke a v).opcode = s.opcode := rfl
@[simp] theorem State.poke_flagC (s : State) (a : Addr) (v : Byte) : (s.poke a v).flagC = s.flagC := rfl
@[simp] theorem State.poke_flagZ (s : State) (a : Addr) (v : Byte) : (s.poke a v).flagZ = s.flagZ := rfl
@[simp] theorem State.poke_flagI (s : State) (a : Addr) (v : Byte) : (s.poke a v).flagI = s.flagI := rfl
@[simp] theorem State.poke_flagD (s : State) (a : Addr) (v : Byte) : (s.poke a v).flagD = s.flagD := rfl
@[simp] theorem State.poke_flagV (s : State) (a : Addr) (v : Byte) : (s.poke a v).flagV = s.flagV := rfl
@[simp] theorem State.poke_flagN (s : State) (a : Addr) (v : Byte) : (s.poke a v).flagN = s.flagN := rfl
@[simp] theorem State.poke_cycleCount (s : State) (a : Addr) (v : Byte) : (s.poke a v).cycleCount = s.cycleCount := rfl
@[simp] theorem State.poke_irqPending (s : State) (a : Addr) (v : Byte) : (s.poke a v).irqPending = s.irqPending := rfl
@[simp] theorem State.poke_nmiPending (s : State) (a : Addr) (v : Byte) : (s.poke a v).nmiPending = s.nmiPending := rfl
@[simp] theorem State.poke_interruptThisCycle (s : State) (a : Addr) (v : Byte) : (s.poke a v).interruptThisCycle = s.interruptThisCycle := rfl
@[simp] theorem State.poke_interruptPrevCycle (s : State) (a : Addr) (v : Byte) : (s.poke a v).interruptPrevCycle = s.interruptPrevCycle := rfl
@[simp] theorem State.poke_addressBus (s : State) (a : Addr) (v : Byte) : (s.poke a v).addressBus = s.addressBus := rfl
@[simp] theorem State.poke_dataBus (s : State) (a : Addr) (v : Byte) : (s.poke a v).dataBus = s.dataBus := rfl
@[simp] theorem State.poke_rwBus (s : State) (a : Addr) (v : Byte) : (s.poke a v).rwBus = s.rwBus := rfl
@[simp] theorem State.poke_readyBus (s : State) (a : Addr) (v : Byte) : (s.poke a v).readyBus = s.readyBus := rfl
@[simp] theorem State.poke_halted (s : State) (a : Addr) (v : Byte) : (s.poke a v).halted = s.halted := rfl
@[simp] theorem State.poke_mem (s : State) (a : Addr) (v : Byte) : (s.poke a v).mem = s.mem.set a.toNat v := rfl
@[simp] theorem State.poke_trace (s : State) (a : Addr) (v : Byte) : (s.poke a v).trace = s.trace := rfl
@[simp] theorem State.poke_freeIndex (s : State) (a : Addr) (v : Byte) : (s.poke a v).freeIndex = s.freeIndex := rfl

@[simp] theorem State.busRead_a (s : State) (a : Addr) : (s.busRead a).a = s.a := rfl
@[simp] theorem State.busRead_x (s : State) (a : Addr) : (s.busRead a).x = s.x := rfl
@[simp] theorem State.busRead_y (s : State) (a : Addr) : (s.busRead a).y = s.y := rfl
@[simp] theorem State.busRead_sp (s : State) (a : Addr) : (s.busRead a).sp = s.sp := rfl
@[simp] theorem State.busRead_pc (s : State) (a : Addr) : (s.busRead a).pc = s.pc := rfl
@[simp] theorem State.busRead_opcode (s : State) (a : Addr) : (s.busRead a).opcode = s.opcode := rfl
@[simp] theorem State.busRead_flagC (s : State) (a : Addr) : (s.busRead a).flagC = s.flagC := rfl
@[simp] theorem State.busRead_flagZ (s : State) (a : Addr) : (s.busRead a).flagZ = s.flagZ := rfl
@[simp] theorem State.busRead_flagI (s : State) (a : Addr) : (s.busRead a).flagI = s.flagI := rfl
@[simp] theorem State.busRead_flagD (s : State) (a : Addr) : (s.busRead a).flagD = s.flagD := rfl
@[simp] theorem State.busRead_flagV (s : State) (a : Addr) : (s.busRead a).flagV = s.flagV := rfl
@[simp] theorem State.busRead_flagN (s : State) (a : Addr) : (s.busRead a).flagN = s.flagN := rfl
@[simp] theorem State.busRead_cycleCount (s : State) (a : Addr) : (s.busRead a).cycleCount = s.cycleCount := rfl
@[simp] theorem State.busRead_irqPending (s : State) (a : Addr) : (s.busRead a).irqPending = s.irqPending := rfl
@[simp] theorem State.busRead_nmiPending (s : State) (a : Addr) : (s.busRead a).nmiPending = s.nmiPending := rfl
@[simp] theorem State.busRead_interruptThisCycle (s : State) (a : Addr) : (s.busRead a).interruptThisCycle = s.interruptThisCycle := rfl
@[simp] theorem State.busRead_interruptPrevCycle (s : State) (a : Addr) : (s.busRead a).interruptPrevCycle = s.interruptPrevCycle := rfl
@[simp] theorem State.busRead_addressBus (s : State) (a : Addr) : (s.busRead a).addressBus = a := rfl
@[simp] theorem State.busRead_dataBus (s : State) (a : Addr) : (s.busRead a).dataBus = s.peek a := rfl
@[simp] theorem State.busRead_rwBus (s : State) (a : Addr) : (s.busRead a).rwBus = true := rfl
@[simp] theorem State.busRead_readyBus (s : State) (a : Addr) : (s.busRead a).readyBus = !s.readyBus := rfl
@[simp] theorem State.busRead_halted (s : State) (a : Addr) : (s.busRead a).halted = s.halted := rfl
@[simp] theorem State.busRead_mem (s : State) (a : Addr) : (s.busRead a).mem = s.mem := rfl
@[simp] theorem State.busRead_trace (s : State) (a : Addr) : (s.busRead a).trace = s.trace := rfl
@[simp] theorem State.busRead_freeIndex (s : State) (a : Addr) : (s.busRead a).freeIndex = s.freeIndex := rfl

@[simp] theorem State.busWrite_a (s : State) (a : Addr) (v : Byte) : (s.busWrite a v).a = s.a := rfl
@[simp] theorem State.busWrite_x (s : State) (a : Addr) (v : Byte) : (s.busWrite a v).x = s.x := rfl
@[simp] theorem State.busWrite_y (s : State) (a : Addr) (v : Byte) : (s.busWrite a v).y = s.y := rfl
@[simp] theorem State.busWrite_sp (s : State) (a : Addr) (v : Byte) : (s.busWrite a v).sp = s.sp := rfl
@[simp] theorem State.busWrite_pc (s : State) (a : Addr) (v : Byte) : (s.busWrite a v).pc = s.pc := rfl
@[simp] theorem State.busWrite_opcode (s : State) (a : Addr) (v : Byte) : (s.busWrite a v).opcode = s.opcode := rfl
@[simp] theorem State.busWrite_flagC (s : State) (a : Addr) (v : Byte) : (s.busWrite a v).flagC = s.flagC := rfl
@[simp] theorem State.busWrite_flagZ (s : State) (a : Addr) (v : Byte) : (s.busWrite a v).flagZ = s.flagZ := rfl
@[simp] theorem State.busWrite_flagI (s : State) (a : Addr) (v : Byte) : (s.busWrite a v).flagI = s.flagI := rfl
@[simp] theorem State.busWrite_flagD (s : State) (a : Addr) (v : Byte) : (s.busWrite a v).flagD = s.flagD := rfl
@[simp] theorem State.busWrite_flagV (s : State) (a : Addr) (v : Byte) : (s.busWrite a v).flagV = s.flagV := rfl
@[simp] theorem State.busWrite_flagN (s : State) (a : Addr) (v : Byte) : (s.busWrite a v).flagN = s.flagN := rfl
@[simp] theorem State.busWrite_cycleCount (s : State) (a : Addr) (v : Byte) : (s.busWrite a v).cycleCount = s.cycleCount := rfl
@[simp] theorem State.busWrite_irqPending (s : State) (a : Addr) (v : Byte) : (s.busWrite a v).irqPending = s.irqPending := rfl
@[simp] theorem State.busWrite_nmiPending (s : State) (a : Addr) (v : Byte) : (s.busWrite a v).nmiPending = s.nmiPending := rfl
@[simp] theorem State.busWrite_interruptThisCycle (s : State) (a : Addr) (v : Byte) : (s.busWrite a v).interruptThisCycle = s.interruptThisCycle := rfl
@[simp] theorem State.busWrite_interruptPrevCycle (s : State) (a : Addr) (v : Byte) : (s.busWrite a v).interruptPrevCycle = s.interruptPrevCycle := rfl
@[simp] theorem State.busWrite_addressBus (s : State) (a : Addr) (v : Byte) : (s.busWrite a v).addressBus = a := rfl
@[simp] theorem State.busWrite_dataBus (s : State) (a : Addr) (v : Byte) : (s.busWrite a v).dataBus = v := rfl
@[simp] theorem State.busWrite_rwBus (s : State) (a : Addr) (v : Byte) : (s.busWrite a v).rwBus = false := rfl
@[simp] theorem State.busWrite_readyBus (s : State) (a : Addr) (v : Byte) : (s.busWrite a v).readyBus = !s.readyBus := rfl
@[simp] theorem State.busWrite_halted (s : State) (a : Addr) (v : Byte) : (s.busWrite a v).halted = s.halted := rfl
@[simp] theorem State.busWrite_mem (s : State) (a : Addr) (v : Byte) : (s.busWrite a v).mem = s.mem.set a.toNat v := rfl
@[simp] theorem State.busWrite_trace (s : State) (a : Addr) (v : Byte) : (s.busWrite a v).trace = s.trace := rfl
@[simp] theorem State.busWrite_freeIndex (s : State) (a : Addr) (v : Byte) : (s.busWrite a v).freeIndex = s.freeIndex := rfl

@[simp] theorem State.endCycle_a (s : State) (r : BusCycle) : (s.endCycle r).a = s.a := rfl
@[simp] theorem State.endCycle_x (s : State) (r : BusCycle) : (s.endCycle r).x = s.x := rfl
@[simp] theorem State.endCycle_y (s : State) (r : BusCycle) : (s.endCycle r).y = s.y := rfl
@[simp] theorem State.endCycle_sp (s : State) (r : BusCycle) : (s.endCycle r).sp = s.sp := rfl
@[simp] theorem State.endCycle_pc (s : State) (r : BusCycle) : (s.endCycle r).pc = s.pc := rfl
@[simp] theorem State.endCycle_opcode (s : State) (r : BusCycle) : (s.endCycle r).opcode = s.opcode := rfl
@[simp] theorem State.endCycle_flagC (s : State) (r : BusCycle) : (s.endCycle r).flagC = s.flagC := rfl
@[simp] theorem State.endCycle_flagZ (s : State) (r : BusCycle) : (s.endCycle r).flagZ = s.flagZ := rfl
@[simp] theorem State.endCycle_flagI (s : State) (r : BusCycle) : (s.endCycle r).flagI = s.flagI := rfl
@[simp] theorem State.endCycle_flagD (s : State) (r : BusCycle) : (s.endCycle r).flagD = s.flagD := rfl
@[simp] theorem State.endCycle_flagV (s : State) (r : BusCycle) : (s.endCycle r).flagV = s.flagV := rfl
@[simp] theorem State.endCycle_flagN (s : State) (r : BusCycle) : (s.endCycle r).flagN = s.flagN := rfl
@[simp] theorem State.endCycle_cycleCount (s : State) (r : BusCycle) : (s.endCycle r).cycleCount = s.cycleCount + 1 := rfl
@[simp] theorem State.endCycle_irqPending (s : State) (r : BusCycle) : (s.endCycle r).irqPending = s.irqPending := rfl
@[simp] theorem State.endCycle_nmiPending (s : State) (r : BusCycle) : (s.endCycle r).nmiPending = s.nmiPending := rfl
@[simp] theorem State.endCycle_interruptThisCycle (s : State) (r : BusCycle) : (s.endCycle r).interruptThisCycle = (s.nmiPending || (s.irqPending && !s.flagI)) := rfl
@[simp] theorem State.endCycle_interruptPrevCycle (s : State) (r : BusCycle) : (s.endCycle r).interruptPrevCycle = s.interruptThisCycle := rfl
@[simp] theorem State.endCycle_addressBus (s : State) (r : BusCycle) : (s.endCycle r).addressBus = s.addressBus := rfl
@[simp] theorem State.endCycle_dataBus (s : State) (r : BusCycle) : (s.endCycle r).dataBus = s.dataBus := rfl
@[simp] theorem State.endCycle_rwBus (s : State) (r : BusCycle) : (s.endCycle r).rwBus = s.rwBus := rfl
@[simp] theorem State.endCycle_readyBus (s : State) (r : BusCycle) : (s.endCycle r).readyBus = s.readyBus := rfl
@[simp] theorem State.endCycle_halted (s : State) (r : BusCycle) : (s.endCycle r).halted = s.halted := rfl
@[simp] theorem State.endCycle_mem (s : State) (r : BusCycle) : (s.endCycle r).mem = s.mem := rfl
@[simp] theorem State.endCycle_trace (s : State) (r : BusCycle) : (s.endCycle r).trace = r :: s.trace := rfl
@[simp] theorem State.endCycle_freeIndex (s : State) (r : BusCycle) : (s.endCycle r).freeIndex = s.freeIndex := rfl

@[simp] theorem State.memRead_a (s : State) (a : Addr) : (s.memRead a).a = s.a := rfl
@[simp] theorem State.memRead_x (s : State) (a : Addr) : (s.memRead a).x = s.x := rfl
@[simp] theorem State.memRead_y (s : State) (a : Addr) : (s.memRead a).y = s.y := rfl
@[simp] theorem State.memRead_sp (s : State) (a : Addr) : (s.memRead a).sp = s.sp := rfl
@[simp] theorem State.memRead_pc (s : State) (a : Addr) : (s.memRead a).pc = s.pc := rfl
@[simp] theorem State.memRead_opcode (s : State) (a : Addr) : (s.memRead a).opcode = s.opcode := rfl
@[simp] theorem State.memRead_flagC (s : State) (a : Addr) : (s.memRead a).flagC = s.flagC := rfl
@[simp] theorem State.memRead_flagZ (s : State) (a : Addr) : (s.memRead a).flagZ = s.flagZ := rfl
@[simp] theorem State.memRead_flagI (s : State) (a : Addr) : (s.memRead a).flagI = s.flagI := rfl
@[simp] theorem State.memRead_flagD (s : State) (a : Addr) : (s.memRead a).flagD = s.flagD := rfl
@[simp] theorem State.memRead_flagV (s : State) (a : Addr) : (s.memRead a).flagV = s.flagV := rfl
@[simp] theorem State.memRead_flagN (s : State) (a : Addr) : (s.memRead a).flagN = s.flagN := rfl
@[simp] theorem State.memRead_cycleCount (s : State) (a : Addr) : (s.memRead a).cycleCount = s.cycleCount + 1 := rfl
@[simp] theorem State.memRead_irqPending (s : State) (a : Addr) : (s.memRead a).irqPending = s.irqPending := rfl
@[simp] theorem State.memRead_nmiPending (s : State) (a : Addr) : (s.memRead a).nmiPending = s.nmiPending := rfl
@[simp] theorem State.memRead_interruptThisCycle (s : State) (a : Addr) : (s.memRead a).interruptThisCycle = (s.nmiPending || (s.irqPending && !s.flagI)) := rfl
@[simp] theorem State.memRead_interruptPrevCycle (s : State) (a : Addr) : (s.memRead a).interruptPrevCycle = s.interruptThisCycle := rfl
@[simp] theorem State.memRead_addressBus (s : State) (a : Addr) : (s.memRead a).addressBus = a := rfl
@[simp] theorem State.memRead_dataBus (s : State) (a : Addr) : (s.memRead a).dataBus = s.peek a := rfl
@[simp] theorem State.memRead_rwBus (s : State) (a : Addr) : (s.memRead a).rwBus = true := rfl
@[simp] theorem State.memRead_readyBus (s : State) (a : Addr) : (s.memRead a).readyBus = !s.readyBus := rfl
@[simp] theorem State.memRead_halted (s : State) (a : Addr) : (s.memRead a).halted = s.halted := rfl
@[simp] theorem State.memRead_mem (s : State) (a : Addr) : (s.memRead a).mem = s.mem := rfl
@[simp] theorem State.memRead_trace (s : State) (a : Addr) : (s.memRead a).trace = .read a (s.peek a) :: s.trace := rfl
@[simp] theorem State.memRead_freeIndex (s : State) (a : Addr) : (s.memRead a).freeIndex = s.freeIndex := rfl

@[simp] theorem State.memWrite_a (s : State) (a : Addr) (v : Byte) : (s.memWrite a v).a = s.a := rfl
@[simp] theorem State.memWrite_x (s : State) (a : Addr) (v : Byte) : (s.memWrite a v).x = s.x := rfl
@[simp] theorem State.memWrite_y (s : State) (a : Addr) (v : Byte) : (s.memWrite a v).y = s.y := rfl
@[simp] theorem State.memWrite_sp (s : State) (a : Addr) (v : Byte) : (s.memWrite a v).sp = s.sp := rfl
@[simp] theorem State.memWrite_pc (s : State) (a : Addr) (v : Byte) : (s.memWrite a v).pc = s.pc := rfl
@[simp] theorem State.memWrite_opcode (s : State) (a : Addr) (v : Byte) : (s.memWrite a v).opcode = s.opcode := rfl
@[simp] theorem State.memWrite_flagC (s : State) (a : Addr) (v : Byte) : (s.memWrite a v).flagC = s.flagC := rfl
@[simp] theorem State.memWrite_flagZ (s : State) (a : Addr) (v : Byte) : (s.memWrite a v).flagZ = s.flagZ := rfl
@[simp] theorem State.memWrite_flagI (s : State) (a : Addr) (v : Byte) : (s.memWrite a v).flagI = s.flagI := rfl
@[simp] theorem State.memWrite_flagD (s : State) (a : Addr) (v : Byte) : (s.memWrite a v).flagD = s.flagD := rfl
@[simp] theorem State.memWrite_flagV (s : State) (a : Addr) (v : Byte) : (s.memWrite a v).flagV = s.flagV := rfl
@[simp] theorem State.memWrite_flagN (s : State) (a : Addr) (v : Byte) : (s.memWrite a v).flagN = s.flagN := rfl
@[simp] theorem State.memWrite_cycleCount (s : State) (a : Addr) (v : Byte) : (s.memWrite a v).cycleCount = s.cycleCount + 1 := rfl
@[simp] theorem State.memWrite_irqPending (s : State) (a : Addr) (v : Byte) : (s.memWrite a v).irqPending = s.irqPending := rfl
@[simp] theorem State.memWrite_nmiPending (s : State) (a : Addr) (v : Byte) : (s.memWrite a v).nmiPending = s.nmiPending := rfl
@[simp] theorem State.memWrite_interruptThisCycle (s : State) (a : Addr) (v : Byte) : (s.memWrite a v).interruptThisCycle = (s.nmiPending || (s.irqPending && !s.flagI)) := rfl
@[simp] theorem State.memWrite_interruptPrevCycle (s : State) (a : Addr) (v : Byte) : (s.memWrite a v).interruptPrevCycle = s.interruptThisCycle := rfl
@[simp] theorem State.memWrite_addressBus (s : State) (a : Addr) (v : Byte) : (s.memWrite a v).addressBus = a := rfl
@[simp] theorem State.memWrite_dataBus (s : State) (a : Addr) (v : Byte) : (s.memWrite a v).dataBus = v := rfl
@[simp] theorem State.memWrite_rwBus (s : State) (a : Addr) (v : Byte) : (s.memWrite a v).rwBus = false := rfl
@[simp] theorem State.memWrite_readyBus (s : State) (a : Addr) (v : Byte) : (s.memWrite a v).readyBus = !s.readyBus := rfl
@[simp] theorem State.memWrite_halted (s : State) (a : Addr) (v : Byte) : (s.memWrite a v).halted = s.halted := rfl
@[simp] theorem State.memWrite_mem (s : State) (a : Addr) (v : Byte) : (s.memWrite a v).mem = s.mem.set a.toNat v := rfl
@[simp] theorem State.memWrite_trace (s : State) (a : Addr) (v : Byte) : (s.memWrite a v).trace = .write a v :: s.trace := rfl
@[simp] theorem State.memWrite_freeIndex (s : State) (a : Addr) (v : Byte) : (s.memWrite a v).freeIndex = s.freeIndex := rfl

@[simp] theorem State.internal_a (s : State) : s.internal.a = s.a := rfl
@[simp] theorem State.internal_x (s : State) : s.internal.x = s.x := rfl
@[simp] theorem State.internal_y (s : State) : s.internal.y = s.y := rfl
@[simp] theorem State.internal_sp (s : State) : s.internal.sp = s.sp := rfl
@[simp] theorem State.internal_pc (s : State) : s.internal.pc = s.pc := rfl
@[simp] theorem State.internal_opcode (s : State) : s.internal.opcode = s.opcode := rfl
@[simp] theorem State.internal_flagC (s : State) : s.internal.flagC = s.flagC := rfl
@[simp] theorem State.internal_flagZ (s : State) : s.internal.flagZ = s.flagZ := rfl
@[simp] theorem State.internal_flagI (s : State) : s.internal.flagI = s.flagI := rfl
@[simp] theorem State.internal_flagD (s : State) : s.internal.flagD = s.flagD := rfl
@[simp] theorem State.internal_flagV (s : State) : s.internal.flagV = s.flagV := rfl
@[simp] theorem State.internal_flagN (s : State) : s.internal.flagN = s.flagN := rfl
@[simp] theorem State.internal_cycleCount (s : State) : s.internal.cycleCount = s.cycleCount + 1 := rfl
@[simp] theorem State.internal_irqPending (s : State) : s.internal.irqPending = s.irqPending := rfl
@[simp] theorem State.internal_nmiPending (s : State) : s.internal.nmiPending = s.nmiPending := rfl
@[simp] theorem State.internal_interruptThisCycle (s : State) : s.internal.interruptThisCycle = (s.nmiPending || (s.irqPending && !s.flagI)) := rfl
@[simp] theorem State.internal_interruptPrevCycle (s : State) : s.internal.interruptPrevCycle = s.interruptThisCycle := rfl
@[simp] theorem State.internal_addressBus (s : State) : s.internal.addressBus = s.addressBus := rfl
@[simp] theorem State.internal_dataBus (s : State) : s.internal.dataBus = s.dataBus := rfl
@[simp] theorem State.internal_rwBus (s : State) : s.internal.rwBus = s.rwBus := rfl
@[simp] theorem State.internal_readyBus (s : State) : s.internal.readyBus = s.readyBus := rfl
@[simp] theorem State.internal_halted (s : State) : s.internal.halted = s.halted := rfl
@[simp] theorem State.internal_mem (s : State) : s.internal.mem = s.mem := rfl
@[simp] theorem State.internal_trace (s : State) : s.internal.trace = .internal :: s.trace := rfl
@[simp] theorem State.internal_freeIndex (s : State) : s.internal.freeIndex = s.freeIndex := rfl

end Sys2Proof.Machine
end

