-- ==== Sys2Proof/Laws/Memory.lean ====
section
/-! SUPPORT. The laws of the memory array: a read after a write, and the canonical form, which every memory operation
keeps (20_memory.md R42 to R45). -/

namespace Sys2Proof.Machine

open Sys2Proof

theorem Memory.get_eq_of_notin (m : Memory) (a : Nat) (h : ∀ c ∈ m, c.1 ≠ a) : m.get a = unlistedByte := by
  induction m with
  | nil => rfl
  | cons c m ih =>
    obtain ⟨k, w⟩ := c
    have hk : k ≠ a := h (k, w) (by simp)
    simp only [Memory.get, hk, if_false]
    exact ih fun c hc => h c (by simp [hc])

theorem Memory.get_erase_same (m : Memory) (a : Nat) : (m.erase a).get a = unlistedByte :=
  Memory.get_eq_of_notin _ _ fun c hc => by simpa [Memory.erase] using (List.mem_filter.mp hc).2

theorem Memory.get_erase_other (m : Memory) {a b : Nat} (h : b ≠ a) : (m.erase a).get b = m.get b := by
  induction m with
  | nil => rfl
  | cons c m ih =>
    obtain ⟨k, w⟩ := c
    by_cases hk : k = a
    · have : k ≠ b := by omega
      simpa [Memory.erase, hk, Memory.get, h.symm] using ih
    · have : (Memory.erase ((k, w) :: m) a) = (k, w) :: Memory.erase m a := by simp [Memory.erase, hk]
      rw [this]
      simp only [Memory.get, ih]

theorem Memory.get_insert_same (a : Nat) (v : Byte) (m : Memory) (h : ∀ c ∈ m, c.1 ≠ a) :
    (Memory.insert a v m).get a = v := by
  induction m with
  | nil => simp [Memory.insert, Memory.get]
  | cons c m ih =>
    obtain ⟨k, w⟩ := c
    have hk : k ≠ a := h (k, w) (by simp)
    by_cases hlt : a < k
    · simp [Memory.insert, hlt, Memory.get]
    · simpa [Memory.insert, hlt, Memory.get, hk] using ih fun c hc => h c (by simp [hc])

theorem Memory.get_insert_other (a : Nat) (v : Byte) (m : Memory) {b : Nat} (h : b ≠ a) :
    (Memory.insert a v m).get b = m.get b := by
  induction m with
  | nil => simp [Memory.insert, Memory.get, h.symm]
  | cons c m ih =>
    obtain ⟨k, w⟩ := c
    by_cases hlt : a < k
    · simp [Memory.insert, hlt, Memory.get, h.symm]
    · simp [Memory.insert, hlt, Memory.get, ih]

/-- A read after a write to the same address gives the byte written (R44, R56). -/
@[simp] theorem Memory.get_set_same (m : Memory) (a : Nat) (v : Byte) : (m.set a v).get a = v := by
  unfold Memory.set
  split
  · next h => rw [Memory.get_erase_same, h]
  · exact Memory.get_insert_same _ _ _ fun c hc => by simpa [Memory.erase] using (List.mem_filter.mp hc).2

/-- A write leaves every other address alone (R44: "No other byte changes"). -/
theorem Memory.get_set_other (m : Memory) {a b : Nat} (v : Byte) (h : b ≠ a) : (m.set a v).get b = m.get b := by
  unfold Memory.set
  split
  · exact Memory.get_erase_other m h
  · rw [Memory.get_insert_other _ _ _ h, Memory.get_erase_other m h]

theorem Memory.wfFrom_mono {lo hi : Nat} {m : Memory} (h : hi ≤ lo) (hm : Memory.wfFrom lo m = true) :
    Memory.wfFrom hi m = true := by
  cases m with
  | nil => rfl
  | cons c m =>
    obtain ⟨k, w⟩ := c
    simp only [Memory.wfFrom, Bool.and_eq_true, decide_eq_true_eq] at hm ⊢
    exact ⟨⟨⟨by omega, hm.1.1.2⟩, hm.1.2⟩, hm.2⟩

theorem Memory.wfFrom_erase {lo : Nat} {m : Memory} (a : Nat) (hm : Memory.wfFrom lo m = true) :
    Memory.wfFrom lo (m.erase a) = true := by
  induction m generalizing lo with
  | nil => rfl
  | cons c m ih =>
    obtain ⟨k, w⟩ := c
    simp only [Memory.wfFrom, Bool.and_eq_true, decide_eq_true_eq] at hm
    have ihm := ih hm.2
    by_cases hk : k = a
    · have : Memory.erase ((k, w) :: m) a = Memory.erase m a := by simp [Memory.erase, hk]
      rw [this]
      exact Memory.wfFrom_mono (by omega) ihm
    · have : Memory.erase ((k, w) :: m) a = (k, w) :: Memory.erase m a := by simp [Memory.erase, hk]
      rw [this]
      simp only [Memory.wfFrom, Bool.and_eq_true, decide_eq_true_eq]
      exact ⟨hm.1, ihm⟩

theorem Memory.wfFrom_insert {lo a : Nat} {v : Byte} {m : Memory} (hlo : lo ≤ a) (ha : a < 65536)
    (hv : v ≠ unlistedByte) (hn : ∀ c ∈ m, c.1 ≠ a) (hm : Memory.wfFrom lo m = true) :
    Memory.wfFrom lo (Memory.insert a v m) = true := by
  induction m generalizing lo with
  | nil => simp [Memory.insert, Memory.wfFrom, hlo, ha, hv]
  | cons c m ih =>
    obtain ⟨k, w⟩ := c
    have hk : k ≠ a := hn (k, w) (by simp)
    simp only [Memory.wfFrom, Bool.and_eq_true, decide_eq_true_eq] at hm
    by_cases hlt : a < k
    · simp only [Memory.insert, hlt, if_true, Memory.wfFrom, Bool.and_eq_true, decide_eq_true_eq]
      exact ⟨⟨⟨hlo, ha⟩, hv⟩, ⟨⟨by omega, hm.1.1.2⟩, hm.1.2⟩, hm.2⟩
    · simp only [Memory.insert, hlt, if_false, Memory.wfFrom, Bool.and_eq_true, decide_eq_true_eq]
      exact ⟨hm.1, ih (by omega) (fun c hc => hn c (by simp [hc])) hm.2⟩

/-- Every store keeps the canonical form. -/
theorem Memory.wf_set {m : Memory} (a : Addr) (v : Byte) (hm : m.wf = true) : (m.set a.toNat v).wf = true := by
  unfold Memory.set Memory.wf at *
  split
  · exact Memory.wfFrom_erase _ hm
  · next hv =>
    exact Memory.wfFrom_insert (by omega) a.isLt hv
      (fun c hc => by simpa [Memory.erase] using (List.mem_filter.mp hc).2) (Memory.wfFrom_erase _ hm)

theorem State.reset_mem_wf : State.reset.mem.wf = true := rfl

/-- Host pokes keep the canonical form (20_memory.md R50). -/
theorem State.poke_mem_wf {s : State} (a : Addr) (v : Byte) (h : s.mem.wf = true) : (s.poke a v).mem.wf = true :=
  Memory.wf_set a v h

/-- Write cycles keep the canonical form. -/
theorem State.memWrite_mem_wf {s : State} (a : Addr) (v : Byte) (h : s.mem.wf = true) :
    (s.memWrite a v).mem.wf = true :=
  Memory.wf_set a v h

/-- Reading a byte depends on the memory alone. -/
theorem State.peek_congr {s t : State} (h : t.mem = s.mem) (b : Addr) : t.peek b = s.peek b := by
  simp [State.peek, h]

/-- What a byte reads as after a write cycle (20_memory.md R44, R47). -/
theorem State.peek_memWrite (s : State) (a : Addr) (v : Byte) (b : Addr) :
    (s.memWrite a v).peek b = if b = a then v else s.peek b := by
  simp only [State.peek, State.memWrite_mem]
  split
  · next h => rw [h, Memory.get_set_same]
  · next h => exact Memory.get_set_other _ _ fun hn => h (BitVec.eq_of_toNat_eq hn)

/-- What a byte reads as after a host poke (20_memory.md R50). -/
theorem State.peek_poke (s : State) (a : Addr) (v : Byte) (b : Addr) :
    (s.poke a v).peek b = if b = a then v else s.peek b :=
  State.peek_memWrite s a v b

@[simp] theorem State.peek_memRead (s : State) (a b : Addr) : (s.memRead a).peek b = s.peek b := rfl
@[simp] theorem State.peek_internal (s : State) (b : Addr) : s.internal.peek b = s.peek b := rfl
@[simp] theorem State.peek_setPc (s : State) (v b : Addr) : (s.setPc v).peek b = s.peek b := rfl
@[simp] theorem State.peek_setSp (s : State) (v : Byte) (b : Addr) : (s.setSp v).peek b = s.peek b := rfl
@[simp] theorem State.peek_setOpcode (s : State) (v : Byte) (b : Addr) : (s.setOpcode v).peek b = s.peek b := rfl
@[simp] theorem State.peek_setI (s : State) (v : Bool) (b : Addr) : (s.setI v).peek b = s.peek b := rfl
@[simp] theorem State.peek_setHalted (s : State) (v : Bool) (b : Addr) : (s.setHalted v).peek b = s.peek b := rfl
@[simp] theorem State.peek_fetchByte (s : State) (b : Addr) : s.fetchByte.peek b = s.peek b := rfl
@[simp] theorem State.peek_dummyNext (s : State) (b : Addr) : s.dummyNext.peek b = s.peek b := rfl
@[simp] theorem State.peek_pull (s : State) (b : Addr) : s.pull.peek b = s.peek b := rfl
@[simp] theorem State.peek_unpack (s : State) (p : Byte) (b : Addr) : (s.unpack p).peek b = s.peek b := by
  simp [State.peek, State.unpack]
@[simp] theorem State.peek_setNZ (s : State) (v : Byte) (b : Addr) : (s.setNZ v).peek b = s.peek b := by
  simp [State.peek, State.setNZ]

/-- What a byte reads as after a push (10_state.md R12). -/
theorem State.peek_push (s : State) (v : Byte) (b : Addr) :
    (s.push v).peek b = if b = stackAddr s.sp then v else s.peek b := by
  rw [State.push, State.peek_setSp, State.peek_memWrite]

end Sys2Proof.Machine
end

