-- ==== Sys2Proof/Laws/Ops.lean ====
section
/-! SUPPORT. What each shared operation can do, said once: which registers it writes (its `Arch` view), and which
cycles it runs (`Ran`). -/

namespace Sys2Proof.Machine

open Sys2Proof

/-! Register writes as changes of the `Arch` view. -/

@[simp] theorem State.arch_setA (s : State) (v : Byte) : (s.setA v).arch = { s.arch with a := v } := rfl
@[simp] theorem State.arch_setX (s : State) (v : Byte) : (s.setX v).arch = { s.arch with x := v } := rfl
@[simp] theorem State.arch_setY (s : State) (v : Byte) : (s.setY v).arch = { s.arch with y := v } := rfl
@[simp] theorem State.arch_setSp (s : State) (v : Byte) : (s.setSp v).arch = { s.arch with sp := v } := rfl
@[simp] theorem State.arch_setPc (s : State) (v : Addr) : (s.setPc v).arch = { s.arch with pc := v } := rfl
@[simp] theorem State.arch_setOpcode (s : State) (v : Byte) : (s.setOpcode v).arch = { s.arch with opcode := v } := rfl
@[simp] theorem State.arch_setC (s : State) (b : Bool) : (s.setC b).arch = { s.arch with flagC := b } := rfl
@[simp] theorem State.arch_setZ (s : State) (b : Bool) : (s.setZ b).arch = { s.arch with flagZ := b } := rfl
@[simp] theorem State.arch_setI (s : State) (b : Bool) : (s.setI b).arch = { s.arch with flagI := b } := rfl
@[simp] theorem State.arch_setD (s : State) (b : Bool) : (s.setD b).arch = { s.arch with flagD := b } := rfl
@[simp] theorem State.arch_setV (s : State) (b : Bool) : (s.setV b).arch = { s.arch with flagV := b } := rfl
@[simp] theorem State.arch_setN (s : State) (b : Bool) : (s.setN b).arch = { s.arch with flagN := b } := rfl
@[simp] theorem State.arch_setNmi (s : State) (b : Bool) : (s.setNmi b).arch = { s.arch with nmiPending := b } := rfl
@[simp] theorem State.arch_setPrev (s : State) (b : Bool) : (s.setPrev b).arch = s.arch := rfl
@[simp] theorem State.arch_setHalted (s : State) (b : Bool) : (s.setHalted b).arch = { s.arch with halted := b } := rfl
@[simp] theorem State.arch_useFree (s : State) : s.useFree.arch = { s.arch with freeIndex := s.freeIndex + 1 } := rfl
@[simp] theorem State.arch_setNZ (s : State) (v : Byte) :
    (s.setNZ v).arch = { s.arch with flagZ := v == 0, flagN := v.msb } := rfl
@[simp] theorem State.arch_unpack (s : State) (p : Byte) :
    (s.unpack p).arch =
      { s.arch with
        flagC := p.getLsbD 0, flagZ := p.getLsbD 1, flagI := p.getLsbD 2, flagD := p.getLsbD 3
        flagV := p.getLsbD 6, flagN := p.getLsbD 7 } := rfl

/-! Cycles write no register. -/

@[simp] theorem State.arch_memRead (s : State) (a : Addr) : (s.memRead a).arch = s.arch := rfl
@[simp] theorem State.arch_memWrite (s : State) (a : Addr) (v : Byte) : (s.memWrite a v).arch = s.arch := rfl
@[simp] theorem State.arch_internal (s : State) : s.internal.arch = s.arch := rfl
@[simp] theorem State.arch_dummyNext (s : State) : s.dummyNext.arch = s.arch := rfl
@[simp] theorem State.arch_fetchByte (s : State) : s.fetchByte.arch = { s.arch with pc := s.pc + 1 } := rfl
@[simp] theorem State.arch_fetchOpcode (s : State) :
    s.fetchOpcode.arch = { s.arch with pc := s.pc + 1, opcode := s.peek s.pc } := rfl
@[simp] theorem State.arch_push (s : State) (v : Byte) : (s.push v).arch = { s.arch with sp := s.sp - 1 } := rfl
@[simp] theorem State.arch_pull (s : State) : s.pull.arch = { s.arch with sp := s.sp + 1 } := rfl

/-! Which cycles an operation runs. -/

theorem replay_append (m : Memory) (ns cs : List BusCycle) :
    replay m (ns ++ cs) = (replay m cs).bind fun m' => replay m' ns := by
  induction ns with
  | nil => cases h : replay m cs <;> simp [replay, h]
  | cons c ns ih =>
    cases c <;> simp only [List.cons_append, replay, ih] <;> cases replay m cs <;> simp

/-- Nothing ran: an operation that writes registers only. -/
theorem Ran.none (s : State) : Ran [] s s := ⟨rfl, rfl, rfl, by simp⟩

/-- Two runs, one after the other. -/
theorem Ran.trans {ns cs : List BusCycle} {s t u : State} (h : Ran cs s t) (g : Ran ns t u) : Ran (ns ++ cs) s u where
  trace := by rw [g.trace, h.trace, List.append_assoc]
  count := by rw [g.count, h.count, List.length_append]; omega
  memory := by rw [replay_append, h.memory]; exact g.memory
  ready := by
    rw [g.ready, h.ready, List.countP_append, Bool.xor_assoc]
    congr 1
    rcases Nat.mod_two_eq_zero_or_one (cs.countP BusCycle.onBus) with hc | hc <;>
      rcases Nat.mod_two_eq_zero_or_one (ns.countP BusCycle.onBus) with hn | hn <;>
      simp [Nat.add_mod, hc, hn]

/-- A run does not depend on registers: only on the trace, the counter, memory and `ready_bus`. -/
theorem Ran.congr {cs : List BusCycle} {s t s' t' : State} (h : Ran cs s t)
    (h1 : s'.trace = s.trace) (h2 : s'.cycleCount = s.cycleCount) (h3 : s'.mem = s.mem) (h4 : s'.readyBus = s.readyBus)
    (g1 : t'.trace = t.trace) (g2 : t'.cycleCount = t.cycleCount) (g3 : t'.mem = t.mem) (g4 : t'.readyBus = t.readyBus) :
    Ran cs s' t' where
  trace := by rw [g1, h1, h.trace]
  count := by rw [g2, h2, h.count]
  memory := by rw [g3, h3, h.memory]
  ready := by rw [g4, h4, h.ready]

/-- A read cycle (20_memory.md R46). -/
theorem Ran.memRead (s : State) (a : Addr) : Ran [.read a (s.peek a)] s (s.memRead a) where
  trace := rfl
  count := rfl
  memory := by simp [replay, State.peek]
  ready := by simp [BusCycle.onBus]

/-- A write cycle (20_memory.md R47). -/
theorem Ran.memWrite (s : State) (a : Addr) (v : Byte) : Ran [.write a v] s (s.memWrite a v) where
  trace := rfl
  count := rfl
  memory := by simp [replay]
  ready := by simp [BusCycle.onBus]

/-- An internal cycle (20_memory.md R48). -/
theorem Ran.internal (s : State) : Ran [.internal] s s.internal where
  trace := rfl
  count := rfl
  memory := rfl
  ready := by simp [BusCycle.onBus]

theorem Ran.fetchByte (s : State) : Ran [.read s.pc (s.peek s.pc)] s s.fetchByte :=
  (Ran.memRead s s.pc).congr rfl rfl rfl rfl rfl rfl rfl rfl

theorem Ran.fetchOpcode (s : State) : Ran [.read s.pc (s.peek s.pc)] s s.fetchOpcode :=
  (Ran.memRead s s.pc).congr rfl rfl rfl rfl rfl rfl rfl rfl

theorem Ran.push (s : State) (v : Byte) : Ran [.write (stackAddr s.sp) v] s (s.push v) :=
  (Ran.memWrite s (stackAddr s.sp) v).congr rfl rfl rfl rfl rfl rfl rfl rfl

theorem Ran.pull (s : State) : Ran [.read (stackAddr (s.sp + 1)) s.pulled] s s.pull :=
  (Ran.memRead (s.setSp (s.sp + 1)) (stackAddr (s.sp + 1))).congr rfl rfl rfl rfl rfl rfl rfl rfl

/-- Loading PC from a vector: two read cycles (60_exceptions.md R261). -/
theorem Ran.loadVector (s : State) (v : Addr) :
    Ran [.read (v + 1) (s.peek (v + 1)), .read v (s.peek v)] s (s.loadVector v) :=
  ((Ran.memRead s v).trans (Ran.memRead (s.memRead v) (v + 1))).congr rfl rfl rfl rfl rfl rfl rfl rfl

end Sys2Proof.Machine
end

