-- ==== Sys2Proof/Laws/Operands.lean ====
section
/-! SUPPORT. What the resolver and the three access patterns can do (40_step_and_addressing.md R94: the resolver "writes
PC, cycle_count, the poll latches and the bus cells; it writes no other register and no flag"). -/

namespace Sys2Proof.Machine

open Sys2Proof

theorem State.arch_index (s : State) (base : Addr) (idx : Byte) : (s.index base idx).2.arch = s.arch := by
  unfold State.index
  split <;> simp

theorem State.mem_index (s : State) (base : Addr) (idx : Byte) : (s.index base idx).2.mem = s.mem := by
  unfold State.index
  split <;> simp

theorem Ran.index (s : State) (base : Addr) (idx : Byte) : ∃ cs, Ran cs s (s.index base idx).2 := by
  unfold State.index
  split
  · exact ⟨_, Ran.memRead s _⟩
  · exact ⟨[], Ran.none s⟩

/-- The resolver moves PC past the operand bytes and writes no other register (R94, R111). -/
theorem State.arch_resolve (s : State) (f : AddrForm) :
    (s.resolve f).2.arch = { s.arch with pc := s.pc + BitVec.ofNat 16 f.mode.operandBytes } := by
  cases f <;>
    simp [State.resolve, State.arch_index, State.readZpPointer, AddrForm.mode, Mode.operandBytes, State.fetchByte,
      BitVec.add_assoc]

/-- The resolver only reads memory. -/
theorem State.mem_resolve (s : State) (f : AddrForm) : (s.resolve f).2.mem = s.mem := by
  cases f <;> simp [State.resolve, State.mem_index, State.readZpPointer, State.fetchByte]

@[simp] theorem State.peek_resolve (s : State) (f : AddrForm) (b : Addr) : (s.resolve f).2.peek b = s.peek b :=
  State.peek_congr (s.mem_resolve f) b

/-- The resolver's effect is that of some cycles. -/
theorem Ran.resolve (s : State) (f : AddrForm) : ∃ cs, Ran cs s (s.resolve f).2 := by
  have fetch2 (s : State) := (Ran.fetchByte s).trans (Ran.fetchByte s.fetchByte)
  cases f with
  | imm v => exact ⟨[], (Ran.none s).congr rfl rfl rfl rfl rfl rfl rfl rfl⟩
  | zp z => exact ⟨_, Ran.fetchByte s⟩
  | zpX z => exact ⟨_, (Ran.fetchByte s).trans (Ran.memRead _ _)⟩
  | zpY z => exact ⟨_, (Ran.fetchByte s).trans (Ran.memRead _ _)⟩
  | abs a => exact ⟨_, fetch2 s⟩
  | absX a =>
    obtain ⟨cs, h⟩ := Ran.index s.fetchByte.fetchByte a s.x
    exact ⟨_, (fetch2 s).trans h⟩
  | absY a =>
    obtain ⟨cs, h⟩ := Ran.index s.fetchByte.fetchByte a s.y
    exact ⟨_, (fetch2 s).trans h⟩
  | indX z =>
    exact ⟨_, (((Ran.fetchByte s).trans (Ran.memRead _ _)).trans (Ran.memRead _ _)).trans (Ran.memRead _ _)⟩
  | indY z =>
    obtain ⟨cs, h⟩ := Ran.index (s.fetchByte.readZpPointer z) (s.zpPointer z) s.y
    exact ⟨_, (((Ran.fetchByte s).trans (Ran.memRead _ _)).trans (Ran.memRead _ _)).trans h⟩
  | ind p => exact ⟨_, ((fetch2 s).trans (Ran.memRead _ _)).trans (Ran.memRead _ _)⟩

/-! The access patterns (R109). -/

@[simp] theorem State.arch_readOperand (s : State) (f : AddrForm) :
    (s.readOperand f).arch = { s.arch with pc := s.pc + BitVec.ofNat 16 f.mode.operandBytes } := by
  simp [State.readOperand, State.arch_resolve]

@[simp] theorem State.arch_storeOperand (s : State) (f : AddrForm) (v : Byte) :
    (s.storeOperand f v).arch = { s.arch with pc := s.pc + BitVec.ofNat 16 f.mode.operandBytes } := by
  simp [State.storeOperand, State.arch_resolve]

@[simp] theorem State.arch_modifyOperand (s : State) (f : AddrForm) (r : Byte) :
    (s.modifyOperand f r).arch = { s.arch with pc := s.pc + BitVec.ofNat 16 f.mode.operandBytes } := by
  simp [State.modifyOperand, State.arch_resolve]

@[simp] theorem State.mem_readOperand (s : State) (f : AddrForm) : (s.readOperand f).mem = s.mem := by
  simp [State.readOperand, State.mem_resolve]

/-- A store writes one byte, at the effective address. -/
theorem State.peek_storeOperand (s : State) (f : AddrForm) (v : Byte) (b : Addr) :
    (s.storeOperand f v).peek b = if b = (s.resolve f).1 then v else s.peek b := by
  simp [State.storeOperand, State.peek_memWrite]

/-- A read-modify-write leaves the modified byte at the effective address, and nothing else changes (R174). -/
theorem State.peek_modifyOperand (s : State) (f : AddrForm) (r : Byte) (b : Addr) :
    (s.modifyOperand f r).peek b = if b = (s.resolve f).1 then r else s.peek b := by
  simp only [State.modifyOperand, State.peek_memWrite, State.peek_memRead, State.peek_resolve]
  split <;> rfl

theorem Ran.readOperand (s : State) (f : AddrForm) : ∃ cs, Ran cs s (s.readOperand f) := by
  obtain ⟨cs, h⟩ := Ran.resolve s f
  exact ⟨_, h.trans (Ran.memRead _ _)⟩

theorem Ran.storeOperand (s : State) (f : AddrForm) (v : Byte) : ∃ cs, Ran cs s (s.storeOperand f v) := by
  obtain ⟨cs, h⟩ := Ran.resolve s f
  exact ⟨_, h.trans (Ran.memWrite _ _ _)⟩

theorem Ran.modifyOperand (s : State) (f : AddrForm) (r : Byte) : ∃ cs, Ran cs s (s.modifyOperand f r) := by
  obtain ⟨cs, h⟩ := Ran.resolve s f
  exact ⟨_, ((h.trans (Ran.memRead _ _)).trans (Ran.memWrite _ _ _)).trans (Ran.memWrite _ _ _)⟩

end Sys2Proof.Machine
end

