-- ==== Sys2Proof/Laws/PerInstr.lean ====
section
/-! SUPPORT. The family of statements made per instruction: every term of `Instr` is well-formed (30_encoding.md R82:
"every one of the 256 opcode bytes is either one of the 151 instructions or raises UnsupportedOpcode"). -/

namespace Sys2Proof.Laws

/-- The instruction is written in a mode its mnemonic has (30_encoding.md R76). -/
def WellFormedInstr.Statement (i : Instr) : Prop := i.wf = true

theorem WellFormedInstr.ldaImm (v : Byte) : WellFormedInstr.Statement (.ldaImm v) := rfl
theorem WellFormedInstr.ldaZp (z : Byte) : WellFormedInstr.Statement (.ldaZp z) := rfl
theorem WellFormedInstr.ldaZpX (z : Byte) : WellFormedInstr.Statement (.ldaZpX z) := rfl
theorem WellFormedInstr.ldaAbs (a : Addr) : WellFormedInstr.Statement (.ldaAbs a) := rfl
theorem WellFormedInstr.ldaAbsX (a : Addr) : WellFormedInstr.Statement (.ldaAbsX a) := rfl
theorem WellFormedInstr.ldaAbsY (a : Addr) : WellFormedInstr.Statement (.ldaAbsY a) := rfl
theorem WellFormedInstr.ldaIndX (z : Byte) : WellFormedInstr.Statement (.ldaIndX z) := rfl
theorem WellFormedInstr.ldaIndY (z : Byte) : WellFormedInstr.Statement (.ldaIndY z) := rfl
theorem WellFormedInstr.ldxImm (v : Byte) : WellFormedInstr.Statement (.ldxImm v) := rfl
theorem WellFormedInstr.ldxZp (z : Byte) : WellFormedInstr.Statement (.ldxZp z) := rfl
theorem WellFormedInstr.ldxZpY (z : Byte) : WellFormedInstr.Statement (.ldxZpY z) := rfl
theorem WellFormedInstr.ldxAbs (a : Addr) : WellFormedInstr.Statement (.ldxAbs a) := rfl
theorem WellFormedInstr.ldxAbsY (a : Addr) : WellFormedInstr.Statement (.ldxAbsY a) := rfl
theorem WellFormedInstr.ldyImm (v : Byte) : WellFormedInstr.Statement (.ldyImm v) := rfl
theorem WellFormedInstr.ldyZp (z : Byte) : WellFormedInstr.Statement (.ldyZp z) := rfl
theorem WellFormedInstr.ldyZpX (z : Byte) : WellFormedInstr.Statement (.ldyZpX z) := rfl
theorem WellFormedInstr.ldyAbs (a : Addr) : WellFormedInstr.Statement (.ldyAbs a) := rfl
theorem WellFormedInstr.ldyAbsX (a : Addr) : WellFormedInstr.Statement (.ldyAbsX a) := rfl
theorem WellFormedInstr.staZp (z : Byte) : WellFormedInstr.Statement (.staZp z) := rfl
theorem WellFormedInstr.staZpX (z : Byte) : WellFormedInstr.Statement (.staZpX z) := rfl
theorem WellFormedInstr.staAbs (a : Addr) : WellFormedInstr.Statement (.staAbs a) := rfl
theorem WellFormedInstr.staAbsX (a : Addr) : WellFormedInstr.Statement (.staAbsX a) := rfl
theorem WellFormedInstr.staAbsY (a : Addr) : WellFormedInstr.Statement (.staAbsY a) := rfl
theorem WellFormedInstr.staIndX (z : Byte) : WellFormedInstr.Statement (.staIndX z) := rfl
theorem WellFormedInstr.staIndY (z : Byte) : WellFormedInstr.Statement (.staIndY z) := rfl
theorem WellFormedInstr.stxZp (z : Byte) : WellFormedInstr.Statement (.stxZp z) := rfl
theorem WellFormedInstr.stxZpY (z : Byte) : WellFormedInstr.Statement (.stxZpY z) := rfl
theorem WellFormedInstr.stxAbs (a : Addr) : WellFormedInstr.Statement (.stxAbs a) := rfl
theorem WellFormedInstr.styZp (z : Byte) : WellFormedInstr.Statement (.styZp z) := rfl
theorem WellFormedInstr.styZpX (z : Byte) : WellFormedInstr.Statement (.styZpX z) := rfl
theorem WellFormedInstr.styAbs (a : Addr) : WellFormedInstr.Statement (.styAbs a) := rfl
theorem WellFormedInstr.tax : WellFormedInstr.Statement .tax := rfl
theorem WellFormedInstr.tay : WellFormedInstr.Statement .tay := rfl
theorem WellFormedInstr.txa : WellFormedInstr.Statement .txa := rfl
theorem WellFormedInstr.tya : WellFormedInstr.Statement .tya := rfl
theorem WellFormedInstr.tsx : WellFormedInstr.Statement .tsx := rfl
theorem WellFormedInstr.txs : WellFormedInstr.Statement .txs := rfl
theorem WellFormedInstr.adcImm (v : Byte) : WellFormedInstr.Statement (.adcImm v) := rfl
theorem WellFormedInstr.adcZp (z : Byte) : WellFormedInstr.Statement (.adcZp z) := rfl
theorem WellFormedInstr.adcZpX (z : Byte) : WellFormedInstr.Statement (.adcZpX z) := rfl
theorem WellFormedInstr.adcAbs (a : Addr) : WellFormedInstr.Statement (.adcAbs a) := rfl
theorem WellFormedInstr.adcAbsX (a : Addr) : WellFormedInstr.Statement (.adcAbsX a) := rfl
theorem WellFormedInstr.adcAbsY (a : Addr) : WellFormedInstr.Statement (.adcAbsY a) := rfl
theorem WellFormedInstr.adcIndX (z : Byte) : WellFormedInstr.Statement (.adcIndX z) := rfl
theorem WellFormedInstr.adcIndY (z : Byte) : WellFormedInstr.Statement (.adcIndY z) := rfl
theorem WellFormedInstr.sbcImm (v : Byte) : WellFormedInstr.Statement (.sbcImm v) := rfl
theorem WellFormedInstr.sbcZp (z : Byte) : WellFormedInstr.Statement (.sbcZp z) := rfl
theorem WellFormedInstr.sbcZpX (z : Byte) : WellFormedInstr.Statement (.sbcZpX z) := rfl
theorem WellFormedInstr.sbcAbs (a : Addr) : WellFormedInstr.Statement (.sbcAbs a) := rfl
theorem WellFormedInstr.sbcAbsX (a : Addr) : WellFormedInstr.Statement (.sbcAbsX a) := rfl
theorem WellFormedInstr.sbcAbsY (a : Addr) : WellFormedInstr.Statement (.sbcAbsY a) := rfl
theorem WellFormedInstr.sbcIndX (z : Byte) : WellFormedInstr.Statement (.sbcIndX z) := rfl
theorem WellFormedInstr.sbcIndY (z : Byte) : WellFormedInstr.Statement (.sbcIndY z) := rfl
theorem WellFormedInstr.andImm (v : Byte) : WellFormedInstr.Statement (.andImm v) := rfl
theorem WellFormedInstr.andZp (z : Byte) : WellFormedInstr.Statement (.andZp z) := rfl
theorem WellFormedInstr.andZpX (z : Byte) : WellFormedInstr.Statement (.andZpX z) := rfl
theorem WellFormedInstr.andAbs (a : Addr) : WellFormedInstr.Statement (.andAbs a) := rfl
theorem WellFormedInstr.andAbsX (a : Addr) : WellFormedInstr.Statement (.andAbsX a) := rfl
theorem WellFormedInstr.andAbsY (a : Addr) : WellFormedInstr.Statement (.andAbsY a) := rfl
theorem WellFormedInstr.andIndX (z : Byte) : WellFormedInstr.Statement (.andIndX z) := rfl
theorem WellFormedInstr.andIndY (z : Byte) : WellFormedInstr.Statement (.andIndY z) := rfl
theorem WellFormedInstr.oraImm (v : Byte) : WellFormedInstr.Statement (.oraImm v) := rfl
theorem WellFormedInstr.oraZp (z : Byte) : WellFormedInstr.Statement (.oraZp z) := rfl
theorem WellFormedInstr.oraZpX (z : Byte) : WellFormedInstr.Statement (.oraZpX z) := rfl
theorem WellFormedInstr.oraAbs (a : Addr) : WellFormedInstr.Statement (.oraAbs a) := rfl
theorem WellFormedInstr.oraAbsX (a : Addr) : WellFormedInstr.Statement (.oraAbsX a) := rfl
theorem WellFormedInstr.oraAbsY (a : Addr) : WellFormedInstr.Statement (.oraAbsY a) := rfl
theorem WellFormedInstr.oraIndX (z : Byte) : WellFormedInstr.Statement (.oraIndX z) := rfl
theorem WellFormedInstr.oraIndY (z : Byte) : WellFormedInstr.Statement (.oraIndY z) := rfl
theorem WellFormedInstr.eorImm (v : Byte) : WellFormedInstr.Statement (.eorImm v) := rfl
theorem WellFormedInstr.eorZp (z : Byte) : WellFormedInstr.Statement (.eorZp z) := rfl
theorem WellFormedInstr.eorZpX (z : Byte) : WellFormedInstr.Statement (.eorZpX z) := rfl
theorem WellFormedInstr.eorAbs (a : Addr) : WellFormedInstr.Statement (.eorAbs a) := rfl
theorem WellFormedInstr.eorAbsX (a : Addr) : WellFormedInstr.Statement (.eorAbsX a) := rfl
theorem WellFormedInstr.eorAbsY (a : Addr) : WellFormedInstr.Statement (.eorAbsY a) := rfl
theorem WellFormedInstr.eorIndX (z : Byte) : WellFormedInstr.Statement (.eorIndX z) := rfl
theorem WellFormedInstr.eorIndY (z : Byte) : WellFormedInstr.Statement (.eorIndY z) := rfl
theorem WellFormedInstr.bitZp (z : Byte) : WellFormedInstr.Statement (.bitZp z) := rfl
theorem WellFormedInstr.bitAbs (a : Addr) : WellFormedInstr.Statement (.bitAbs a) := rfl
theorem WellFormedInstr.aslAcc : WellFormedInstr.Statement .aslAcc := rfl
theorem WellFormedInstr.aslZp (z : Byte) : WellFormedInstr.Statement (.aslZp z) := rfl
theorem WellFormedInstr.aslZpX (z : Byte) : WellFormedInstr.Statement (.aslZpX z) := rfl
theorem WellFormedInstr.aslAbs (a : Addr) : WellFormedInstr.Statement (.aslAbs a) := rfl
theorem WellFormedInstr.aslAbsX (a : Addr) : WellFormedInstr.Statement (.aslAbsX a) := rfl
theorem WellFormedInstr.lsrAcc : WellFormedInstr.Statement .lsrAcc := rfl
theorem WellFormedInstr.lsrZp (z : Byte) : WellFormedInstr.Statement (.lsrZp z) := rfl
theorem WellFormedInstr.lsrZpX (z : Byte) : WellFormedInstr.Statement (.lsrZpX z) := rfl
theorem WellFormedInstr.lsrAbs (a : Addr) : WellFormedInstr.Statement (.lsrAbs a) := rfl
theorem WellFormedInstr.lsrAbsX (a : Addr) : WellFormedInstr.Statement (.lsrAbsX a) := rfl
theorem WellFormedInstr.rolAcc : WellFormedInstr.Statement .rolAcc := rfl
theorem WellFormedInstr.rolZp (z : Byte) : WellFormedInstr.Statement (.rolZp z) := rfl
theorem WellFormedInstr.rolZpX (z : Byte) : WellFormedInstr.Statement (.rolZpX z) := rfl
theorem WellFormedInstr.rolAbs (a : Addr) : WellFormedInstr.Statement (.rolAbs a) := rfl
theorem WellFormedInstr.rolAbsX (a : Addr) : WellFormedInstr.Statement (.rolAbsX a) := rfl
theorem WellFormedInstr.rorAcc : WellFormedInstr.Statement .rorAcc := rfl
theorem WellFormedInstr.rorZp (z : Byte) : WellFormedInstr.Statement (.rorZp z) := rfl
theorem WellFormedInstr.rorZpX (z : Byte) : WellFormedInstr.Statement (.rorZpX z) := rfl
theorem WellFormedInstr.rorAbs (a : Addr) : WellFormedInstr.Statement (.rorAbs a) := rfl
theorem WellFormedInstr.rorAbsX (a : Addr) : WellFormedInstr.Statement (.rorAbsX a) := rfl
theorem WellFormedInstr.incZp (z : Byte) : WellFormedInstr.Statement (.incZp z) := rfl
theorem WellFormedInstr.incZpX (z : Byte) : WellFormedInstr.Statement (.incZpX z) := rfl
theorem WellFormedInstr.incAbs (a : Addr) : WellFormedInstr.Statement (.incAbs a) := rfl
theorem WellFormedInstr.incAbsX (a : Addr) : WellFormedInstr.Statement (.incAbsX a) := rfl
theorem WellFormedInstr.decZp (z : Byte) : WellFormedInstr.Statement (.decZp z) := rfl
theorem WellFormedInstr.decZpX (z : Byte) : WellFormedInstr.Statement (.decZpX z) := rfl
theorem WellFormedInstr.decAbs (a : Addr) : WellFormedInstr.Statement (.decAbs a) := rfl
theorem WellFormedInstr.decAbsX (a : Addr) : WellFormedInstr.Statement (.decAbsX a) := rfl
theorem WellFormedInstr.inx : WellFormedInstr.Statement .inx := rfl
theorem WellFormedInstr.iny : WellFormedInstr.Statement .iny := rfl
theorem WellFormedInstr.dex : WellFormedInstr.Statement .dex := rfl
theorem WellFormedInstr.dey : WellFormedInstr.Statement .dey := rfl
theorem WellFormedInstr.cmpImm (v : Byte) : WellFormedInstr.Statement (.cmpImm v) := rfl
theorem WellFormedInstr.cmpZp (z : Byte) : WellFormedInstr.Statement (.cmpZp z) := rfl
theorem WellFormedInstr.cmpZpX (z : Byte) : WellFormedInstr.Statement (.cmpZpX z) := rfl
theorem WellFormedInstr.cmpAbs (a : Addr) : WellFormedInstr.Statement (.cmpAbs a) := rfl
theorem WellFormedInstr.cmpAbsX (a : Addr) : WellFormedInstr.Statement (.cmpAbsX a) := rfl
theorem WellFormedInstr.cmpAbsY (a : Addr) : WellFormedInstr.Statement (.cmpAbsY a) := rfl
theorem WellFormedInstr.cmpIndX (z : Byte) : WellFormedInstr.Statement (.cmpIndX z) := rfl
theorem WellFormedInstr.cmpIndY (z : Byte) : WellFormedInstr.Statement (.cmpIndY z) := rfl
theorem WellFormedInstr.cpxImm (v : Byte) : WellFormedInstr.Statement (.cpxImm v) := rfl
theorem WellFormedInstr.cpxZp (z : Byte) : WellFormedInstr.Statement (.cpxZp z) := rfl
theorem WellFormedInstr.cpxAbs (a : Addr) : WellFormedInstr.Statement (.cpxAbs a) := rfl
theorem WellFormedInstr.cpyImm (v : Byte) : WellFormedInstr.Statement (.cpyImm v) := rfl
theorem WellFormedInstr.cpyZp (z : Byte) : WellFormedInstr.Statement (.cpyZp z) := rfl
theorem WellFormedInstr.cpyAbs (a : Addr) : WellFormedInstr.Statement (.cpyAbs a) := rfl
theorem WellFormedInstr.bcc (d : Byte) : WellFormedInstr.Statement (.bcc d) := rfl
theorem WellFormedInstr.bcs (d : Byte) : WellFormedInstr.Statement (.bcs d) := rfl
theorem WellFormedInstr.beq (d : Byte) : WellFormedInstr.Statement (.beq d) := rfl
theorem WellFormedInstr.bne (d : Byte) : WellFormedInstr.Statement (.bne d) := rfl
theorem WellFormedInstr.bmi (d : Byte) : WellFormedInstr.Statement (.bmi d) := rfl
theorem WellFormedInstr.bpl (d : Byte) : WellFormedInstr.Statement (.bpl d) := rfl
theorem WellFormedInstr.bvc (d : Byte) : WellFormedInstr.Statement (.bvc d) := rfl
theorem WellFormedInstr.bvs (d : Byte) : WellFormedInstr.Statement (.bvs d) := rfl
theorem WellFormedInstr.jmpAbs (a : Addr) : WellFormedInstr.Statement (.jmpAbs a) := rfl
theorem WellFormedInstr.jmpInd (p : Addr) : WellFormedInstr.Statement (.jmpInd p) := rfl
theorem WellFormedInstr.jsrAbs (a : Addr) : WellFormedInstr.Statement (.jsrAbs a) := rfl
theorem WellFormedInstr.rts : WellFormedInstr.Statement .rts := rfl
theorem WellFormedInstr.brk : WellFormedInstr.Statement .brk := rfl
theorem WellFormedInstr.rti : WellFormedInstr.Statement .rti := rfl
theorem WellFormedInstr.clc : WellFormedInstr.Statement .clc := rfl
theorem WellFormedInstr.sec : WellFormedInstr.Statement .sec := rfl
theorem WellFormedInstr.cld : WellFormedInstr.Statement .cld := rfl
theorem WellFormedInstr.sed : WellFormedInstr.Statement .sed := rfl
theorem WellFormedInstr.cli : WellFormedInstr.Statement .cli := rfl
theorem WellFormedInstr.sei : WellFormedInstr.Statement .sei := rfl
theorem WellFormedInstr.clv : WellFormedInstr.Statement .clv := rfl
theorem WellFormedInstr.pha : WellFormedInstr.Statement .pha := rfl
theorem WellFormedInstr.php : WellFormedInstr.Statement .php := rfl
theorem WellFormedInstr.pla : WellFormedInstr.Statement .pla := rfl
theorem WellFormedInstr.plp : WellFormedInstr.Statement .plp := rfl
theorem WellFormedInstr.nop : WellFormedInstr.Statement .nop := rfl

end Sys2Proof.Laws
end

