-- ==== Sys2Proof/Laws/Step.lean ====
section
/-! SUPPORT. What a step and an interrupt service can do, said once; and that the reset procedure gives the reset
state. -/

namespace Sys2Proof.Machine

open Sys2Proof

/-- `reset()` on the power-on state gives the state right after reset (10_state.md R29; 70_reset_and_hazards.md R270).
-/
theorem State.hostReset_powerOn : State.powerOn.hostReset = State.reset := rfl

/-- A step that answers a next state was not refused, ran the instruction the decoder reads, and then polled once. -/
theorem step_next_cases {s t : State} (h : step s = .next t) :
    s.halted = false ∧ ∃ i u, decodeInstr s.fetchOpcode.instrBytes = some i ∧ exec i s.fetchOpcode = .next u ∧
      t = u.pollAndService := by
  unfold step at h
  split at h
  · cases h
  · next hh =>
    refine ⟨by simpa using hh, ?_⟩
    split at h
    · cases h
    · next i hi =>
      split at h
      · next u hu => exact ⟨i, u, hi, hu, by cases h; rfl⟩
      · cases h
      · cases h

/-- What the poll can do (60_exceptions.md R249): nothing, an NMI service, or an IRQ service. -/
theorem State.pollAndService_cases (s : State) :
    (s.interruptPrevCycle = false ∧ s.pollAndService = s) ∨
    (s.interruptPrevCycle = true ∧ s.nmiPending = true ∧
      s.pollAndService = (s.service serviceExtraCycles nmiVector).setNmi false) ∨
    (s.interruptPrevCycle = true ∧ s.nmiPending = false ∧ s.irqPending = true ∧
      s.pollAndService = s.service serviceExtraCycles irqVector) ∨
    (s.interruptPrevCycle = true ∧ s.nmiPending = false ∧ s.irqPending = false ∧ s.pollAndService = s) := by
  unfold State.pollAndService
  cases s.interruptPrevCycle <;> cases s.nmiPending <;> cases s.irqPending <;> simp

/-- The BRK sequence runs six cycles (47_system_flags_stack.md R211). -/
theorem Ran.brkSequence (s : State) (b : Bool) (v : Addr) : ∃ cs, cs.length = 6 ∧ Ran cs s (s.brkSequence b v) := by
  let s1 := s.internal.setPc (s.pc + 1)
  let s2 := (s1.push (hi8 s1.pc)).push (lo8 s1.pc)
  let s3 := s2.push (s2.pack b)
  have h1 : Ran [.internal] s s1 := (Ran.internal s).congr rfl rfl rfl rfl rfl rfl rfl rfl
  have h2 := (h1.trans (Ran.push s1 (hi8 s1.pc))).trans (Ran.push (s1.push (hi8 s1.pc)) (lo8 s1.pc))
  have h3 := h2.trans (Ran.push s2 (s2.pack b))
  have h4 : Ran _ s (s3.setI true) := h3.congr rfl rfl rfl rfl rfl rfl rfl rfl
  exact ⟨_, rfl, h4.trans (Ran.loadVector (s3.setI true) v)⟩

/-- A service runs the six cycles of the BRK sequence (60_exceptions.md R250, SERVICE_EXTRA_CYCLES = 0). -/
theorem Ran.service (s : State) (v : Addr) : ∃ cs, cs.length = 6 ∧ Ran cs s (s.service 0 v) := by
  obtain ⟨cs, hl, h⟩ := Ran.brkSequence (s.setPc (s.pc - 1)) false v
  exact ⟨cs, hl, h.congr rfl rfl rfl rfl rfl rfl rfl rfl⟩

end Sys2Proof.Machine
end

