-- ==== Sys2Proof/Tests/Slice0.lean ====
section
/-! SUPPORT. The model's own tests. Expected results come from the spec: the encodings of 30_encoding.md R76 and the
vectors of 95_test_vectors.md. V after a decimal ADC or SBC is a free value and is not looked at. At the end, a state
and operands that meet the hypotheses of each statement. -/

open Sys2Proof Sys2Proof.Machine

namespace Sys2Proof.Tests

/-! ## Helpers -/

/-- The common start state of the vectors: just after reset, `bytes` at `pc`, some bytes of data. -/
def start (pc : Addr) (bytes : List Byte) (data : List (Addr × Byte)) : State :=
  ((data.foldl (fun s d => s.poke d.1 d.2) State.reset).pokeAll pc.toNat bytes).setPc pc

/-- One step completes with these cycles (oldest first) in a state of which `p` holds. -/
def runs (s : State) (cycles : List BusCycle) (p : State → Bool) : Bool :=
  match step s with
  | .next t => t.trace.reverse == cycles && t.cycleCount == cycles.length && !t.halted && p t
  | _ => false

/-- One step raises UnsupportedOpcode with these cycles, in a state of which `p` holds. -/
def faults (s : State) (cycles : List BusCycle) (p : State → Bool) : Bool :=
  match step s with
  | .fault (.unsupportedOpcode op t) => op == s.peek s.pc && t.trace.reverse == cycles && t.halted && p t
  | _ => false

/-! ## Ill-formed terms are refused (WellFormed.lean; 30_encoding.md R71, R76; 91_not_in_source.md N3) -/

theorem test_wf_refuses_LDA_without_operand : (Asm.mk .LDA .imp).wf = false := by decide
theorem test_wf_refuses_LDA_accumulator : (Asm.mk .LDA .acc).wf = false := by decide
theorem test_wf_refuses_LDA_zpY : (Asm.mk .LDA (.addr (.zpY 0x10))).wf = false := by decide
theorem test_wf_refuses_STA_immediate : (Asm.mk .STA (.addr (.imm 0x10))).wf = false := by decide
theorem test_wf_refuses_STX_absY : (Asm.mk .STX (.addr (.absY 0x1234))).wf = false := by decide
theorem test_wf_refuses_INC_accumulator : (Asm.mk .INC .acc).wf = false := by decide
theorem test_wf_refuses_JMP_relative : (Asm.mk .JMP (.rel 0x10)).wf = false := by decide
theorem test_wf_refuses_JSR_indirect : (Asm.mk .JSR (.addr (.ind 0x1234))).wf = false := by decide
theorem test_wf_refuses_BCC_absolute : (Asm.mk .BCC (.addr (.abs 0x1234))).wf = false := by decide
theorem test_wf_refuses_CLC_with_operand : (Asm.mk .CLC (.addr (.zp 0x10))).wf = false := by decide
theorem test_wf_accepts_LDX_absY : (Asm.mk .LDX (.addr (.absY 0x1234))).wf = true := by decide

/-! ## Every constructor's decoding -/

/-- 30_encoding.md R76, "Transfers". -/
theorem test_decodes_LDA :
    decodeInstr [0xA9, 0x12] = some (.ldaImm 0x12) ∧
    decodeInstr [0xA5, 0x12] = some (.ldaZp 0x12) ∧
    decodeInstr [0xB5, 0x12] = some (.ldaZpX 0x12) ∧
    decodeInstr [0xAD, 0x34, 0x12] = some (.ldaAbs 0x1234) ∧
    decodeInstr [0xBD, 0x34, 0x12] = some (.ldaAbsX 0x1234) ∧
    decodeInstr [0xB9, 0x34, 0x12] = some (.ldaAbsY 0x1234) ∧
    decodeInstr [0xA1, 0x12] = some (.ldaIndX 0x12) ∧
    decodeInstr [0xB1, 0x12] = some (.ldaIndY 0x12) := by decide

/-- 30_encoding.md R76, "Transfers". -/
theorem test_decodes_LDX :
    decodeInstr [0xA2, 0x12] = some (.ldxImm 0x12) ∧
    decodeInstr [0xA6, 0x12] = some (.ldxZp 0x12) ∧
    decodeInstr [0xB6, 0x12] = some (.ldxZpY 0x12) ∧
    decodeInstr [0xAE, 0x34, 0x12] = some (.ldxAbs 0x1234) ∧
    decodeInstr [0xBE, 0x34, 0x12] = some (.ldxAbsY 0x1234) := by decide

/-- 30_encoding.md R76, "Transfers". -/
theorem test_decodes_LDY :
    decodeInstr [0xA0, 0x12] = some (.ldyImm 0x12) ∧
    decodeInstr [0xA4, 0x12] = some (.ldyZp 0x12) ∧
    decodeInstr [0xB4, 0x12] = some (.ldyZpX 0x12) ∧
    decodeInstr [0xAC, 0x34, 0x12] = some (.ldyAbs 0x1234) ∧
    decodeInstr [0xBC, 0x34, 0x12] = some (.ldyAbsX 0x1234) := by decide

/-- 30_encoding.md R76, "Transfers". -/
theorem test_decodes_STA :
    decodeInstr [0x85, 0x12] = some (.staZp 0x12) ∧
    decodeInstr [0x95, 0x12] = some (.staZpX 0x12) ∧
    decodeInstr [0x8D, 0x34, 0x12] = some (.staAbs 0x1234) ∧
    decodeInstr [0x9D, 0x34, 0x12] = some (.staAbsX 0x1234) ∧
    decodeInstr [0x99, 0x34, 0x12] = some (.staAbsY 0x1234) ∧
    decodeInstr [0x81, 0x12] = some (.staIndX 0x12) ∧
    decodeInstr [0x91, 0x12] = some (.staIndY 0x12) := by decide

/-- 30_encoding.md R76, "Transfers". -/
theorem test_decodes_STX :
    decodeInstr [0x86, 0x12] = some (.stxZp 0x12) ∧
    decodeInstr [0x96, 0x12] = some (.stxZpY 0x12) ∧
    decodeInstr [0x8E, 0x34, 0x12] = some (.stxAbs 0x1234) := by decide

/-- 30_encoding.md R76, "Transfers". -/
theorem test_decodes_STY :
    decodeInstr [0x84, 0x12] = some (.styZp 0x12) ∧
    decodeInstr [0x94, 0x12] = some (.styZpX 0x12) ∧
    decodeInstr [0x8C, 0x34, 0x12] = some (.styAbs 0x1234) := by decide

/-- 30_encoding.md R76, "Transfers". -/
theorem test_decodes_transfers_one_form :
    decodeInstr [0xAA] = some .tax ∧
    decodeInstr [0xA8] = some .tay ∧
    decodeInstr [0x8A] = some .txa ∧
    decodeInstr [0x98] = some .tya ∧
    decodeInstr [0xBA] = some .tsx ∧
    decodeInstr [0x9A] = some .txs := by decide

/-- 30_encoding.md R76, "Arithmetic". -/
theorem test_decodes_ADC :
    decodeInstr [0x69, 0x12] = some (.adcImm 0x12) ∧
    decodeInstr [0x65, 0x12] = some (.adcZp 0x12) ∧
    decodeInstr [0x75, 0x12] = some (.adcZpX 0x12) ∧
    decodeInstr [0x6D, 0x34, 0x12] = some (.adcAbs 0x1234) ∧
    decodeInstr [0x7D, 0x34, 0x12] = some (.adcAbsX 0x1234) ∧
    decodeInstr [0x79, 0x34, 0x12] = some (.adcAbsY 0x1234) ∧
    decodeInstr [0x61, 0x12] = some (.adcIndX 0x12) ∧
    decodeInstr [0x71, 0x12] = some (.adcIndY 0x12) := by decide

/-- 30_encoding.md R76, "Arithmetic". -/
theorem test_decodes_SBC :
    decodeInstr [0xE9, 0x12] = some (.sbcImm 0x12) ∧
    decodeInstr [0xE5, 0x12] = some (.sbcZp 0x12) ∧
    decodeInstr [0xF5, 0x12] = some (.sbcZpX 0x12) ∧
    decodeInstr [0xED, 0x34, 0x12] = some (.sbcAbs 0x1234) ∧
    decodeInstr [0xFD, 0x34, 0x12] = some (.sbcAbsX 0x1234) ∧
    decodeInstr [0xF9, 0x34, 0x12] = some (.sbcAbsY 0x1234) ∧
    decodeInstr [0xE1, 0x12] = some (.sbcIndX 0x12) ∧
    decodeInstr [0xF1, 0x12] = some (.sbcIndY 0x12) := by decide

/-- 30_encoding.md R76, "Logical". -/
theorem test_decodes_AND :
    decodeInstr [0x29, 0x12] = some (.andImm 0x12) ∧
    decodeInstr [0x25, 0x12] = some (.andZp 0x12) ∧
    decodeInstr [0x35, 0x12] = some (.andZpX 0x12) ∧
    decodeInstr [0x2D, 0x34, 0x12] = some (.andAbs 0x1234) ∧
    decodeInstr [0x3D, 0x34, 0x12] = some (.andAbsX 0x1234) ∧
    decodeInstr [0x39, 0x34, 0x12] = some (.andAbsY 0x1234) ∧
    decodeInstr [0x21, 0x12] = some (.andIndX 0x12) ∧
    decodeInstr [0x31, 0x12] = some (.andIndY 0x12) := by decide

/-- 30_encoding.md R76, "Logical". -/
theorem test_decodes_ORA :
    decodeInstr [0x09, 0x12] = some (.oraImm 0x12) ∧
    decodeInstr [0x05, 0x12] = some (.oraZp 0x12) ∧
    decodeInstr [0x15, 0x12] = some (.oraZpX 0x12) ∧
    decodeInstr [0x0D, 0x34, 0x12] = some (.oraAbs 0x1234) ∧
    decodeInstr [0x1D, 0x34, 0x12] = some (.oraAbsX 0x1234) ∧
    decodeInstr [0x19, 0x34, 0x12] = some (.oraAbsY 0x1234) ∧
    decodeInstr [0x01, 0x12] = some (.oraIndX 0x12) ∧
    decodeInstr [0x11, 0x12] = some (.oraIndY 0x12) := by decide

/-- 30_encoding.md R76, "Logical". -/
theorem test_decodes_EOR :
    decodeInstr [0x49, 0x12] = some (.eorImm 0x12) ∧
    decodeInstr [0x45, 0x12] = some (.eorZp 0x12) ∧
    decodeInstr [0x55, 0x12] = some (.eorZpX 0x12) ∧
    decodeInstr [0x4D, 0x34, 0x12] = some (.eorAbs 0x1234) ∧
    decodeInstr [0x5D, 0x34, 0x12] = some (.eorAbsX 0x1234) ∧
    decodeInstr [0x59, 0x34, 0x12] = some (.eorAbsY 0x1234) ∧
    decodeInstr [0x41, 0x12] = some (.eorIndX 0x12) ∧
    decodeInstr [0x51, 0x12] = some (.eorIndY 0x12) := by decide

/-- 30_encoding.md R76, "Bit test". -/
theorem test_decodes_BIT :
    decodeInstr [0x24, 0x12] = some (.bitZp 0x12) ∧
    decodeInstr [0x2C, 0x34, 0x12] = some (.bitAbs 0x1234) := by decide

/-- 30_encoding.md R76, "Shifts and rotates". -/
theorem test_decodes_ASL :
    decodeInstr [0x0A] = some .aslAcc ∧
    decodeInstr [0x06, 0x12] = some (.aslZp 0x12) ∧
    decodeInstr [0x16, 0x12] = some (.aslZpX 0x12) ∧
    decodeInstr [0x0E, 0x34, 0x12] = some (.aslAbs 0x1234) ∧
    decodeInstr [0x1E, 0x34, 0x12] = some (.aslAbsX 0x1234) := by decide

/-- 30_encoding.md R76, "Shifts and rotates". -/
theorem test_decodes_LSR :
    decodeInstr [0x4A] = some .lsrAcc ∧
    decodeInstr [0x46, 0x12] = some (.lsrZp 0x12) ∧
    decodeInstr [0x56, 0x12] = some (.lsrZpX 0x12) ∧
    decodeInstr [0x4E, 0x34, 0x12] = some (.lsrAbs 0x1234) ∧
    decodeInstr [0x5E, 0x34, 0x12] = some (.lsrAbsX 0x1234) := by decide

/-- 30_encoding.md R76, "Shifts and rotates". -/
theorem test_decodes_ROL :
    decodeInstr [0x2A] = some .rolAcc ∧
    decodeInstr [0x26, 0x12] = some (.rolZp 0x12) ∧
    decodeInstr [0x36, 0x12] = some (.rolZpX 0x12) ∧
    decodeInstr [0x2E, 0x34, 0x12] = some (.rolAbs 0x1234) ∧
    decodeInstr [0x3E, 0x34, 0x12] = some (.rolAbsX 0x1234) := by decide

/-- 30_encoding.md R76, "Shifts and rotates". -/
theorem test_decodes_ROR :
    decodeInstr [0x6A] = some .rorAcc ∧
    decodeInstr [0x66, 0x12] = some (.rorZp 0x12) ∧
    decodeInstr [0x76, 0x12] = some (.rorZpX 0x12) ∧
    decodeInstr [0x6E, 0x34, 0x12] = some (.rorAbs 0x1234) ∧
    decodeInstr [0x7E, 0x34, 0x12] = some (.rorAbsX 0x1234) := by decide

/-- 30_encoding.md R76, "Increments and decrements". -/
theorem test_decodes_INC :
    decodeInstr [0xE6, 0x12] = some (.incZp 0x12) ∧
    decodeInstr [0xF6, 0x12] = some (.incZpX 0x12) ∧
    decodeInstr [0xEE, 0x34, 0x12] = some (.incAbs 0x1234) ∧
    decodeInstr [0xFE, 0x34, 0x12] = some (.incAbsX 0x1234) := by decide

/-- 30_encoding.md R76, "Increments and decrements". -/
theorem test_decodes_DEC :
    decodeInstr [0xC6, 0x12] = some (.decZp 0x12) ∧
    decodeInstr [0xD6, 0x12] = some (.decZpX 0x12) ∧
    decodeInstr [0xCE, 0x34, 0x12] = some (.decAbs 0x1234) ∧
    decodeInstr [0xDE, 0x34, 0x12] = some (.decAbsX 0x1234) := by decide

/-- 30_encoding.md R76, "Increments and decrements". -/
theorem test_decodes_increments_one_form :
    decodeInstr [0xE8] = some .inx ∧
    decodeInstr [0xC8] = some .iny ∧
    decodeInstr [0xCA] = some .dex ∧
    decodeInstr [0x88] = some .dey := by decide

/-- 30_encoding.md R76, "Compares". -/
theorem test_decodes_CMP :
    decodeInstr [0xC9, 0x12] = some (.cmpImm 0x12) ∧
    decodeInstr [0xC5, 0x12] = some (.cmpZp 0x12) ∧
    decodeInstr [0xD5, 0x12] = some (.cmpZpX 0x12) ∧
    decodeInstr [0xCD, 0x34, 0x12] = some (.cmpAbs 0x1234) ∧
    decodeInstr [0xDD, 0x34, 0x12] = some (.cmpAbsX 0x1234) ∧
    decodeInstr [0xD9, 0x34, 0x12] = some (.cmpAbsY 0x1234) ∧
    decodeInstr [0xC1, 0x12] = some (.cmpIndX 0x12) ∧
    decodeInstr [0xD1, 0x12] = some (.cmpIndY 0x12) := by decide

/-- 30_encoding.md R76, "Compares". -/
theorem test_decodes_CPX :
    decodeInstr [0xE0, 0x12] = some (.cpxImm 0x12) ∧
    decodeInstr [0xE4, 0x12] = some (.cpxZp 0x12) ∧
    decodeInstr [0xEC, 0x34, 0x12] = some (.cpxAbs 0x1234) := by decide

/-- 30_encoding.md R76, "Compares". -/
theorem test_decodes_CPY :
    decodeInstr [0xC0, 0x12] = some (.cpyImm 0x12) ∧
    decodeInstr [0xC4, 0x12] = some (.cpyZp 0x12) ∧
    decodeInstr [0xCC, 0x34, 0x12] = some (.cpyAbs 0x1234) := by decide

/-- 30_encoding.md R76, "Branches". -/
theorem test_decodes_branches_one_form :
    decodeInstr [0x90, 0x12] = some (.bcc 0x12) ∧
    decodeInstr [0xB0, 0x12] = some (.bcs 0x12) ∧
    decodeInstr [0xF0, 0x12] = some (.beq 0x12) ∧
    decodeInstr [0xD0, 0x12] = some (.bne 0x12) ∧
    decodeInstr [0x30, 0x12] = some (.bmi 0x12) ∧
    decodeInstr [0x10, 0x12] = some (.bpl 0x12) ∧
    decodeInstr [0x50, 0x12] = some (.bvc 0x12) ∧
    decodeInstr [0x70, 0x12] = some (.bvs 0x12) := by decide

/-- 30_encoding.md R76, "Jumps and calls". -/
theorem test_decodes_JMP :
    decodeInstr [0x4C, 0x34, 0x12] = some (.jmpAbs 0x1234) ∧
    decodeInstr [0x6C, 0x34, 0x12] = some (.jmpInd 0x1234) := by decide

/-- 30_encoding.md R76, "Jumps and calls". -/
theorem test_decodes_jumps_one_form :
    decodeInstr [0x20, 0x34, 0x12] = some (.jsrAbs 0x1234) ∧
    decodeInstr [0x60] = some .rts := by decide

/-- 30_encoding.md R76, "Interrupt control". -/
theorem test_decodes_interrupt_one_form :
    decodeInstr [0x00] = some .brk ∧
    decodeInstr [0x40] = some .rti := by decide

/-- 30_encoding.md R76, "Flag set and clear". -/
theorem test_decodes_flag_one_form :
    decodeInstr [0x18] = some .clc ∧
    decodeInstr [0x38] = some .sec ∧
    decodeInstr [0xD8] = some .cld ∧
    decodeInstr [0xF8] = some .sed ∧
    decodeInstr [0x58] = some .cli ∧
    decodeInstr [0x78] = some .sei ∧
    decodeInstr [0xB8] = some .clv := by decide

/-- 30_encoding.md R76, "Stack". -/
theorem test_decodes_stack_one_form :
    decodeInstr [0x48] = some .pha ∧
    decodeInstr [0x08] = some .php ∧
    decodeInstr [0x68] = some .pla ∧
    decodeInstr [0x28] = some .plp := by decide

/-- 30_encoding.md R76, "No operation". -/
theorem test_decodes_no_one_form :
    decodeInstr [0xEA] = some .nop := by decide

/-! One word of each family, bit by bit: the opcode byte is its row and column of the map (30_encoding.md R73). -/

theorem test_word_LDA_imm : decodeTableWord 16 0b00010010_1010_1001 = some (.ldaImm 0x12) := by decide
theorem test_word_ADC_zp : decodeTableWord 16 0b00010010_0110_0101 = some (.adcZp 0x12) := by decide
theorem test_word_EOR_absX : decodeTableWord 24 0b00010010_00110100_0101_1101 = some (.eorAbsX 0x1234) := by decide
theorem test_word_BIT_abs : decodeTableWord 24 0b00010010_00110100_0010_1100 = some (.bitAbs 0x1234) := by decide
theorem test_word_ROR_A : decodeTableWord 8 0b0110_1010 = some .rorAcc := by decide
theorem test_word_DEC_zpX : decodeTableWord 16 0b00010010_1101_0110 = some (.decZpX 0x12) := by decide
theorem test_word_CPY_imm : decodeTableWord 16 0b00010010_1100_0000 = some (.cpyImm 0x12) := by decide
theorem test_word_BVS : decodeTableWord 16 0b00010010_0111_0000 = some (.bvs 0x12) := by decide
theorem test_word_JMP_ind : decodeTableWord 24 0b00010010_00110100_0110_1100 = some (.jmpInd 0x1234) := by decide
theorem test_word_RTI : decodeTableWord 8 0b0100_0000 = some .rti := by decide
theorem test_word_SED : decodeTableWord 8 0b1111_1000 = some .sed := by decide
theorem test_word_PLP : decodeTableWord 8 0b0010_1000 = some .plp := by decide
theorem test_word_NOP : decodeTableWord 8 0b1110_1010 = some .nop := by decide

/-- An opcode-table word shorter than its instruction has operand bytes of zeros. -/
theorem test_word_shorter_than_instruction : decodeTableWord 8 0x4C = some (.jmpAbs 0x0000) := by decide

/-! Rejected by name (30_encoding.md R80, R81). -/

theorem test_decode_rejects_unsupported : decode [0x02, 0x00, 0x00] = .error (.unsupportedOpcode 0x02) := by rfl
theorem test_decode_rejects_EB : decode [0xEB, 0x01] = .error (.unsupportedOpcode 0xEB) := by rfl
theorem test_decode_rejects_empty : decode [] = .error .empty := by rfl
theorem test_decode_rejects_truncated : decode [0xAD, 0x34] = .error (.truncated 0xAD) := by rfl

/-! ## One step -/

/-- 95_test_vectors.md V1. -/
theorem test_LDA_sets_Z_and_clears_N :
    runs (start 0x0200 [0xA9, 0x00] [] |>.setA 0x55)
      [.read 0x0200 0xA9, .read 0x0201 0x00]
      (fun t => t.a == 0x00 && t.pc == 0x0202 && t.flagZ && !t.flagN) = true := by decide

/-- 95_test_vectors.md V11. -/
theorem test_LDA_absX_wraps_the_address_space :
    runs (start 0x0200 [0xBD, 0xFF, 0xFF] [(0x0000, 0x5A)] |>.setX 0x01)
      [.read 0x0200 0xBD, .read 0x0201 0xFF, .read 0x0202 0xFF, .read 0xFF00 0x00, .read 0x0000 0x5A]
      (fun t => t.a == 0x5A && t.pc == 0x0203) = true := by decide

/-- 95_test_vectors.md V15. -/
theorem test_LDA_indX_pointer_wraps_in_page_zero :
    runs (start 0x0200 [0xA1, 0xF0] [(0x0000, 0x12), (0x00FF, 0x34), (0x0100, 0x77), (0x1234, 0xAB)] |>.setX 0x0F)
      [.read 0x0200 0xA1, .read 0x0201 0xF0, .read 0x00F0 0x00, .read 0x00FF 0x34, .read 0x0000 0x12,
       .read 0x1234 0xAB]
      (fun t => t.a == 0xAB && t.pc == 0x0202 && t.flagN) = true := by decide

/-- 95_test_vectors.md V18. -/
theorem test_LDA_indY_pointer_wraps_in_page_zero :
    runs (start 0x0200 [0xB1, 0xFF] [(0x0000, 0x30), (0x00FF, 0x00), (0x0100, 0x77), (0x3001, 0x42)] |>.setY 0x01)
      [.read 0x0200 0xB1, .read 0x0201 0xFF, .read 0x00FF 0x00, .read 0x0000 0x30, .read 0x3001 0x42]
      (fun t => t.a == 0x42 && t.pc == 0x0202) = true := by decide

/-- 95_test_vectors.md V6. -/
theorem test_LDX_zpY_wraps_in_page_zero :
    runs (start 0x0200 [0xB6, 0xF0] [(0x0010, 0x44)] |>.setY 0x20)
      [.read 0x0200 0xB6, .read 0x0201 0xF0, .read 0x00F0 0x00, .read 0x0010 0x44]
      (fun t => t.x == 0x44 && t.pc == 0x0202) = true := by decide

/-- 95_test_vectors.md V14. -/
theorem test_LDY_absX_crosses_a_page :
    runs (start 0x0200 [0xBC, 0xFF, 0x12] [(0x1300, 0x09)] |>.setX 0x01)
      [.read 0x0200 0xBC, .read 0x0201 0xFF, .read 0x0202 0x12, .read 0x1200 0x00, .read 0x1300 0x09]
      (fun t => t.y == 0x09 && t.pc == 0x0203) = true := by decide

/-- 95_test_vectors.md V26. -/
theorem test_STA_absX_has_its_dummy_read_without_a_cross :
    runs (start 0x0200 [0x9D, 0xF0, 0x12] [] |>.setA 0xAA |>.setX 0x05)
      [.read 0x0200 0x9D, .read 0x0201 0xF0, .read 0x0202 0x12, .read 0x12F5 0x00, .write 0x12F5 0xAA]
      (fun t => t.pc == 0x0203) = true := by decide

/-- 95_test_vectors.md V30. -/
theorem test_STA_indY_crosses_a_page :
    runs (start 0x0200 [0x91, 0x10] [(0x0010, 0xF0), (0x0011, 0x12)] |>.setA 0xAA |>.setY 0x20)
      [.read 0x0200 0x91, .read 0x0201 0x10, .read 0x0010 0xF0, .read 0x0011 0x12, .read 0x1210 0x00,
       .write 0x1310 0xAA]
      (fun t => t.pc == 0x0202) = true := by decide

/-- 95_test_vectors.md V23. -/
theorem test_STX_zpY_writes_no_flag :
    runs (start 0x0200 [0x96, 0xF0] [] |>.setX 0xBB |>.setY 0x20 |>.setN true |>.setZ true)
      [.read 0x0200 0x96, .read 0x0201 0xF0, .read 0x00F0 0x00, .write 0x0010 0xBB]
      (fun t => t.pc == 0x0202) = true := by decide

/-- 95_test_vectors.md V32. -/
theorem test_STY_zpX_wraps_in_page_zero :
    runs (start 0x0200 [0x94, 0x10] [] |>.setY 0x07 |>.setX 0xFF)
      [.read 0x0200 0x94, .read 0x0201 0x10, .read 0x0010 0x00, .write 0x000F 0x07]
      (fun t => t.pc == 0x0202) = true := by decide

/-- 95_test_vectors.md V33. -/
theorem test_TAX :
    runs (start 0x0200 [0xAA] [] |>.setA 0x00 |>.setX 0x55)
      [.read 0x0200 0xAA, .read 0x0202 0x00]
      (fun t => t.x == 0x00 && t.pc == 0x0201 && t.flagZ && !t.flagN) = true := by decide

/-- 95_test_vectors.md V34. -/
theorem test_TAY :
    runs (start 0x0200 [0xA8] [] |>.setA 0x80)
      [.read 0x0200 0xA8, .read 0x0202 0x00]
      (fun t => t.y == 0x80 && t.pc == 0x0201 && !t.flagZ && t.flagN) = true := by decide

/-- 95_test_vectors.md V35. -/
theorem test_TXA :
    runs (start 0x0200 [0x8A] [] |>.setX 0x7F |>.setA 0x80 |>.setN true)
      [.read 0x0200 0x8A, .read 0x0202 0x00]
      (fun t => t.a == 0x7F && t.pc == 0x0201 && !t.flagZ && !t.flagN) = true := by decide

/-- 95_test_vectors.md V36. -/
theorem test_TYA :
    runs (start 0x0200 [0x98] [] |>.setY 0x00 |>.setA 0x01)
      [.read 0x0200 0x98, .read 0x0202 0x00]
      (fun t => t.a == 0x00 && t.pc == 0x0201 && t.flagZ && !t.flagN) = true := by decide

/-- 95_test_vectors.md V37. -/
theorem test_TSX :
    runs (start 0x0200 [0xBA] [])
      [.read 0x0200 0xBA, .read 0x0202 0x00]
      (fun t => t.x == 0xFD && t.pc == 0x0201 && !t.flagZ && t.flagN) = true := by decide

/-- 95_test_vectors.md V38. -/
theorem test_TXS_writes_no_flag :
    runs (start 0x0200 [0x9A] [] |>.setX 0x00 |>.setN true)
      [.read 0x0200 0x9A, .read 0x0202 0x00]
      (fun t => t.sp == 0x00 && t.pc == 0x0201 && !t.flagZ && t.flagN) = true := by decide

/-- 95_test_vectors.md V45. -/
theorem test_ADC_carry_and_overflow :
    runs (start 0x0200 [0x69, 0x90] [] |>.setA 0xD0 |>.setC false)
      [.read 0x0200 0x69, .read 0x0201 0x90]
      (fun t => t.a == 0x60 && t.pc == 0x0202 && t.flagC && !t.flagZ && t.flagV && !t.flagN) = true := by decide

/-- 95_test_vectors.md V54. -/
theorem test_ADC_absX_crosses_a_page :
    runs (start 0x0200 [0x7D, 0xF0, 0x12] [(0x1310, 0x0F)] |>.setA 0x10 |>.setX 0x20 |>.setC true)
      [.read 0x0200 0x7D, .read 0x0201 0xF0, .read 0x0202 0x12, .read 0x1210 0x00, .read 0x1310 0x0F]
      (fun t => t.a == 0x20 && t.pc == 0x0203 && !t.flagC && !t.flagZ && !t.flagV && !t.flagN) = true := by decide

/-- 95_test_vectors.md V72. -/
theorem test_ADC_decimal_carries :
    runs (start 0x0200 [0x69, 0x46] [] |>.setA 0x58 |>.setC true |>.setD true)
      [.read 0x0200 0x69, .read 0x0201 0x46]
      (fun t => t.a == 0x05 && t.pc == 0x0202 && t.flagC && !t.flagZ && !t.flagN) = true := by decide

/-- 95_test_vectors.md V58. -/
theorem test_SBC_overflow :
    runs (start 0x0200 [0xE9, 0x01] [] |>.setA 0x80 |>.setC true)
      [.read 0x0200 0xE9, .read 0x0201 0x01]
      (fun t => t.a == 0x7F && t.pc == 0x0202 && t.flagC && !t.flagZ && t.flagV && !t.flagN) = true := by decide

/-- 95_test_vectors.md V83. -/
theorem test_SBC_decimal_borrows :
    runs (start 0x0200 [0xE9, 0x01] [] |>.setA 0x00 |>.setC true |>.setD true)
      [.read 0x0200 0xE9, .read 0x0201 0x01]
      (fun t => t.a == 0x99 && t.pc == 0x0202 && !t.flagC && !t.flagZ && t.flagN) = true := by decide

/-- 95_test_vectors.md V95. -/
theorem test_AND_absY :
    runs (start 0x0200 [0x39, 0xF0, 0x12] [(0x1310, 0x81)] |>.setA 0xFF |>.setY 0x20)
      [.read 0x0200 0x39, .read 0x0201 0xF0, .read 0x0202 0x12, .read 0x1210 0x00, .read 0x1310 0x81]
      (fun t => t.a == 0x81 && t.pc == 0x0203 && !t.flagZ && t.flagN) = true := by decide

/-- 95_test_vectors.md V98. -/
theorem test_ORA_indX :
    runs (start 0x0200 [0x01, 0xF0] [(0x00F2, 0x00), (0x00F3, 0x30), (0x3000, 0x30)] |>.setA 0x0F |>.setX 0x02)
      [.read 0x0200 0x01, .read 0x0201 0xF0, .read 0x00F0 0x00, .read 0x00F2 0x00, .read 0x00F3 0x30,
       .read 0x3000 0x30]
      (fun t => t.a == 0x3F && t.pc == 0x0202 && !t.flagZ && !t.flagN) = true := by decide

/-- 95_test_vectors.md V101. -/
theorem test_EOR_zpX :
    runs (start 0x0200 [0x55, 0x10] [(0x0011, 0xF0)] |>.setA 0x0F |>.setX 0x01)
      [.read 0x0200 0x55, .read 0x0201 0x10, .read 0x0010 0x00, .read 0x0011 0xF0]
      (fun t => t.a == 0xFF && t.pc == 0x0202 && !t.flagZ && t.flagN) = true := by decide

/-- 95_test_vectors.md V102. -/
theorem test_BIT_sets_N_V_Z :
    runs (start 0x0200 [0x24, 0x10] [(0x0010, 0xC0)] |>.setA 0x01)
      [.read 0x0200 0x24, .read 0x0201 0x10, .read 0x0010 0xC0]
      (fun t => t.a == 0x01 && t.pc == 0x0202 && t.flagZ && t.flagV && t.flagN) = true := by decide

/-- 95_test_vectors.md V103. -/
theorem test_BIT_clears_N_V :
    runs (start 0x0200 [0x24, 0x10] [(0x0010, 0x3F)] |>.setA 0xFF |>.setV true |>.setN true)
      [.read 0x0200 0x24, .read 0x0201 0x10, .read 0x0010 0x3F]
      (fun t => t.a == 0xFF && t.pc == 0x0202 && !t.flagZ && !t.flagV && !t.flagN) = true := by decide

/-- 95_test_vectors.md V109. -/
theorem test_ASL_A_drops_old_carry :
    runs (start 0x0200 [0x0A] [] |>.setA 0x40 |>.setC true)
      [.read 0x0200 0x0A, .read 0x0202 0x00]
      (fun t => t.a == 0x80 && t.pc == 0x0201 && !t.flagC && !t.flagZ && t.flagN) = true := by decide

/-- 95_test_vectors.md V110. -/
theorem test_LSR_A :
    runs (start 0x0200 [0x4A] [] |>.setA 0x01 |>.setN true)
      [.read 0x0200 0x4A, .read 0x0202 0x00]
      (fun t => t.a == 0x00 && t.pc == 0x0201 && t.flagC && t.flagZ && !t.flagN) = true := by decide

/-- 95_test_vectors.md V112. -/
theorem test_ROL_A :
    runs (start 0x0200 [0x2A] [] |>.setA 0x80 |>.setC true)
      [.read 0x0200 0x2A, .read 0x0202 0x00]
      (fun t => t.a == 0x01 && t.pc == 0x0201 && t.flagC && !t.flagZ && !t.flagN) = true := by decide

/-- 95_test_vectors.md V115. -/
theorem test_ROR_A :
    runs (start 0x0200 [0x6A] [] |>.setA 0x01 |>.setC true)
      [.read 0x0200 0x6A, .read 0x0202 0x00]
      (fun t => t.a == 0x80 && t.pc == 0x0201 && t.flagC && !t.flagZ && t.flagN) = true := by decide

/-- 95_test_vectors.md V118. -/
theorem test_ASL_zp :
    runs (start 0x0200 [0x06, 0x10] [(0x0010, 0xC0)])
      [.read 0x0200 0x06, .read 0x0201 0x10, .read 0x0010 0xC0, .write 0x0010 0xC0, .write 0x0010 0x80]
      (fun t => t.pc == 0x0202 && t.flagC && !t.flagZ && t.flagN) = true := by decide

/-- 95_test_vectors.md V119. -/
theorem test_LSR_zpX_wraps :
    runs (start 0x0200 [0x56, 0xF0] [(0x0010, 0x03)] |>.setX 0x20)
      [.read 0x0200 0x56, .read 0x0201 0xF0, .read 0x00F0 0x00, .read 0x0010 0x03, .write 0x0010 0x03,
       .write 0x0010 0x01]
      (fun t => t.pc == 0x0202 && t.flagC && !t.flagZ && !t.flagN) = true := by decide

/-- 95_test_vectors.md V120. -/
theorem test_ROL_abs :
    runs (start 0x0200 [0x2E, 0x34, 0x12] [(0x1234, 0x7F)] |>.setC true)
      [.read 0x0200 0x2E, .read 0x0201 0x34, .read 0x0202 0x12, .read 0x1234 0x7F, .write 0x1234 0x7F,
       .write 0x1234 0xFF]
      (fun t => t.pc == 0x0203 && !t.flagC && !t.flagZ && t.flagN) = true := by decide

/-- 95_test_vectors.md V122. -/
theorem test_ROR_absX_crosses_a_page :
    runs (start 0x0200 [0x7E, 0xF0, 0x12] [(0x1310, 0x02)] |>.setX 0x20 |>.setC true)
      [.read 0x0200 0x7E, .read 0x0201 0xF0, .read 0x0202 0x12, .read 0x1210 0x00, .read 0x1310 0x02,
       .write 0x1310 0x02, .write 0x1310 0x81]
      (fun t => t.pc == 0x0203 && !t.flagC && !t.flagZ && t.flagN) = true := by decide

/-- 95_test_vectors.md V124. -/
theorem test_INC_zp_wraps_and_keeps_C :
    runs (start 0x0200 [0xE6, 0x10] [(0x0010, 0xFF)] |>.setC true)
      [.read 0x0200 0xE6, .read 0x0201 0x10, .read 0x0010 0xFF, .write 0x0010 0xFF, .write 0x0010 0x00]
      (fun t => t.pc == 0x0202 && t.flagC && t.flagZ && !t.flagN) = true := by decide

/-- 95_test_vectors.md V128. -/
theorem test_DEC_absX_crosses_a_page :
    runs (start 0x0200 [0xDE, 0xF0, 0x12] [(0x1310, 0x01)] |>.setX 0x20)
      [.read 0x0200 0xDE, .read 0x0201 0xF0, .read 0x0202 0x12, .read 0x1210 0x00, .read 0x1310 0x01,
       .write 0x1310 0x01, .write 0x1310 0x00]
      (fun t => t.pc == 0x0203 && t.flagZ && !t.flagN) = true := by decide

/-- 95_test_vectors.md V131. -/
theorem test_INX_wraps :
    runs (start 0x0200 [0xE8] [] |>.setX 0xFF |>.setC false)
      [.read 0x0200 0xE8, .read 0x0202 0x00]
      (fun t => t.x == 0x00 && t.pc == 0x0201 && !t.flagC && t.flagZ && !t.flagN) = true := by decide

/-- 95_test_vectors.md V132. -/
theorem test_INY_sign :
    runs (start 0x0200 [0xC8] [] |>.setY 0x7F)
      [.read 0x0200 0xC8, .read 0x0202 0x00]
      (fun t => t.y == 0x80 && t.pc == 0x0201 && !t.flagZ && t.flagN) = true := by decide

/-- 95_test_vectors.md V133. -/
theorem test_DEX_wraps :
    runs (start 0x0200 [0xCA] [] |>.setX 0x00)
      [.read 0x0200 0xCA, .read 0x0202 0x00]
      (fun t => t.x == 0xFF && t.pc == 0x0201 && !t.flagZ && t.flagN) = true := by decide

/-- 95_test_vectors.md V134. -/
theorem test_DEY_zero :
    runs (start 0x0200 [0x88] [] |>.setY 0x01)
      [.read 0x0200 0x88, .read 0x0202 0x00]
      (fun t => t.y == 0x00 && t.pc == 0x0201 && t.flagZ && !t.flagN) = true := by decide

/-- 95_test_vectors.md V138. -/
theorem test_CMP_unsigned_borrow :
    runs (start 0x0200 [0xC9, 0x80] [] |>.setA 0x00 |>.setV true)
      [.read 0x0200 0xC9, .read 0x0201 0x80]
      (fun t => t.a == 0x00 && t.pc == 0x0202 && !t.flagC && !t.flagZ && t.flagV && t.flagN) = true := by decide

/-- 95_test_vectors.md V149. -/
theorem test_CMP_indY :
    runs (start 0x0200 [0xD1, 0x10] [(0x0010, 0xF0), (0x0011, 0x12), (0x1310, 0x0F)] |>.setA 0x10 |>.setY 0x20)
      [.read 0x0200 0xD1, .read 0x0201 0x10, .read 0x0010 0xF0, .read 0x0011 0x12, .read 0x1210 0x00,
       .read 0x1310 0x0F]
      (fun t => t.pc == 0x0202 && t.flagC && !t.flagZ && !t.flagN) = true := by decide

/-- 95_test_vectors.md V145. -/
theorem test_CPX_zp :
    runs (start 0x0200 [0xE4, 0x10] [(0x0010, 0x05)] |>.setX 0x05)
      [.read 0x0200 0xE4, .read 0x0201 0x10, .read 0x0010 0x05]
      (fun t => t.x == 0x05 && t.pc == 0x0202 && t.flagC && t.flagZ && !t.flagN) = true := by decide

/-- 95_test_vectors.md V146. -/
theorem test_CPY_abs :
    runs (start 0x0200 [0xCC, 0x34, 0x12] [(0x1234, 0x20)] |>.setY 0x10)
      [.read 0x0200 0xCC, .read 0x0201 0x34, .read 0x0202 0x12, .read 0x1234 0x20]
      (fun t => t.y == 0x10 && t.pc == 0x0203 && !t.flagC && !t.flagZ && t.flagN) = true := by decide

/-- 95_test_vectors.md V150. -/
theorem test_BCC_taken :
    runs (start 0x0000 [0x90, 0x02] [] |>.setC false)
      [.read 0x0000 0x90, .read 0x0001 0x02, .internal]
      (fun t => t.pc == 0x0004) = true := by decide

/-- 95_test_vectors.md V151. -/
theorem test_BCC_not_taken :
    runs (start 0x0000 [0x90, 0x02] [] |>.setC true)
      [.read 0x0000 0x90, .read 0x0001 0x02]
      (fun t => t.pc == 0x0002) = true := by decide

/-- 95_test_vectors.md V152. -/
theorem test_BCS_backwards :
    runs (start 0x0010 [0xB0, 0xFE] [] |>.setC true)
      [.read 0x0010 0xB0, .read 0x0011 0xFE, .internal]
      (fun t => t.pc == 0x0010) = true := by decide

/-- 95_test_vectors.md V153. -/
theorem test_BEQ_to_next_page :
    runs (start 0x00FD [0xF0, 0x01] [] |>.setZ true)
      [.read 0x00FD 0xF0, .read 0x00FE 0x01, .internal, .internal]
      (fun t => t.pc == 0x0100) = true := by decide

/-- 95_test_vectors.md V161. -/
theorem test_BEQ_wraps :
    runs (start 0xFFFA [0xF0, 0x04] [] |>.setZ true)
      [.read 0xFFFA 0xF0, .read 0xFFFB 0x04, .internal, .internal]
      (fun t => t.pc == 0x0000) = true := by decide

/-- 95_test_vectors.md V154. -/
theorem test_BNE_backwards :
    runs (start 0x0008 [0xD0, 0xFB] [] |>.setZ false)
      [.read 0x0008 0xD0, .read 0x0009 0xFB, .internal]
      (fun t => t.pc == 0x0005) = true := by decide

/-- 95_test_vectors.md V155. -/
theorem test_BMI_taken :
    runs (start 0x0200 [0x30, 0x10] [] |>.setN true)
      [.read 0x0200 0x30, .read 0x0201 0x10, .internal]
      (fun t => t.pc == 0x0212) = true := by decide

/-- 95_test_vectors.md V156. -/
theorem test_BPL_backwards_to_another_page :
    runs (start 0x0300 [0x10, 0x80] [] |>.setN false)
      [.read 0x0300 0x10, .read 0x0301 0x80, .internal, .internal]
      (fun t => t.pc == 0x0282) = true := by decide

/-- 95_test_vectors.md V157. -/
theorem test_BVC_farthest :
    runs (start 0x0000 [0x50, 0x7F] [] |>.setV false)
      [.read 0x0000 0x50, .read 0x0001 0x7F, .internal]
      (fun t => t.pc == 0x0081) = true := by decide

/-- 95_test_vectors.md V159. -/
theorem test_BVS_taken :
    runs (start 0x0000 [0x70, 0x05] [] |>.setV true)
      [.read 0x0000 0x70, .read 0x0001 0x05, .internal]
      (fun t => t.pc == 0x0007) = true := by decide

/-- 95_test_vectors.md V171. -/
theorem test_JMP_abs :
    runs (start 0x0200 [0x4C, 0x00, 0x06] [])
      [.read 0x0200 0x4C, .read 0x0201 0x00, .read 0x0202 0x06]
      (fun t => t.pc == 0x0600) = true := by decide

/-- 95_test_vectors.md V174. -/
theorem test_JMP_ind_stays_in_its_page :
    runs (start 0x0200 [0x6C, 0xFF, 0x01] [(0x0100, 0x02), (0x01FF, 0x03), (0x0200, 0x6C)])
      [.read 0x0200 0x6C, .read 0x0201 0xFF, .read 0x0202 0x01, .read 0x01FF 0x03, .read 0x0100 0x02]
      (fun t => t.pc == 0x0203) = true := by decide

/-- 95_test_vectors.md V177. -/
theorem test_JSR_across_the_top_of_memory :
    runs (start 0xFFFD [0x20, 0x00, 0x03] [])
      [.read 0xFFFD 0x20, .read 0xFFFE 0x00, .read 0xFFFF 0x03, .internal, .write 0x01FD 0xFF, .write 0x01FC 0xFF]
      (fun t => t.sp == 0xFB && t.pc == 0x0300) = true := by decide

/-- 95_test_vectors.md V180. -/
theorem test_RTS_stack_wraps :
    runs (start 0x0200 [0x60] [(0x0100, 0x12), (0x01FF, 0x33)] |>.setSp 0xFE)
      [.read 0x0200 0x60, .internal, .internal, .read 0x01FF 0x33, .read 0x0100 0x12, .internal]
      (fun t => t.sp == 0x00 && t.pc == 0x1234) = true := by decide

/-- 95_test_vectors.md V182. -/
theorem test_PHA_stack_wraps :
    runs (start 0x0200 [0x48] [] |>.setA 0x01 |>.setSp 0x00)
      [.read 0x0200 0x48, .read 0x0202 0x00, .write 0x0100 0x01]
      (fun t => t.sp == 0xFF && t.pc == 0x0201) = true := by decide

/-- 95_test_vectors.md V184. -/
theorem test_PHP_image :
    runs (start 0x0200 [0x08] [] |>.setC true |>.setZ true |>.setN true)
      [.read 0x0200 0x08, .read 0x0202 0x00, .write 0x01FD 0xB7]
      (fun t => t.sp == 0xFC && t.pc == 0x0201) = true := by decide

/-- 95_test_vectors.md V188. -/
theorem test_PLA_stack_wraps :
    runs (start 0x0200 [0x68] [(0x0100, 0x80)] |>.setSp 0xFF)
      [.read 0x0200 0x68, .read 0x0202 0x00, .internal, .read 0x0100 0x80]
      (fun t => t.a == 0x80 && t.sp == 0x00 && t.pc == 0x0201 && !t.flagZ && t.flagN) = true := by decide

/-- 95_test_vectors.md V190. -/
theorem test_PLP_ignores_bits_4_and_5 :
    runs (start 0x0200 [0x28] [(0x01FD, 0x30)] |>.setSp 0xFC |>.setC true |>.setZ true |>.setD true |>.setV true |>.setN true)
      [.read 0x0200 0x28, .read 0x0202 0x00, .internal, .read 0x01FD 0x30]
      (fun t => t.sp == 0xFD && t.pc == 0x0201 && !t.flagC && !t.flagZ && !t.flagI && !t.flagD && !t.flagV &&
        !t.flagN) = true := by decide

/-- 95_test_vectors.md V195. -/
theorem test_CLC :
    runs (start 0x0200 [0x18] [] |>.setC true)
      [.read 0x0200 0x18, .read 0x0202 0x00]
      (fun t => t.pc == 0x0201 && !t.flagC) = true := by decide

/-- 95_test_vectors.md V196. -/
theorem test_SEC :
    runs (start 0x0200 [0x38] [] |>.setC false)
      [.read 0x0200 0x38, .read 0x0202 0x00]
      (fun t => t.pc == 0x0201 && t.flagC) = true := by decide

/-- 95_test_vectors.md V197. -/
theorem test_CLD :
    runs (start 0x0200 [0xD8] [] |>.setD true)
      [.read 0x0200 0xD8, .read 0x0202 0x00]
      (fun t => t.pc == 0x0201 && !t.flagD) = true := by decide

/-- 95_test_vectors.md V198. -/
theorem test_SED :
    runs (start 0x0200 [0xF8] [] |>.setD false)
      [.read 0x0200 0xF8, .read 0x0202 0x00]
      (fun t => t.pc == 0x0201 && t.flagD) = true := by decide

/-- 95_test_vectors.md V199. -/
theorem test_CLI :
    runs (start 0x0200 [0x58] [])
      [.read 0x0200 0x58, .read 0x0202 0x00]
      (fun t => t.pc == 0x0201 && !t.flagI) = true := by decide

/-- 95_test_vectors.md V200. -/
theorem test_SEI :
    runs (start 0x0200 [0x78] [] |>.setI false)
      [.read 0x0200 0x78, .read 0x0202 0x00]
      (fun t => t.pc == 0x0201 && t.flagI) = true := by decide

/-- 95_test_vectors.md V201. -/
theorem test_CLV :
    runs (start 0x0200 [0xB8] [] |>.setV true)
      [.read 0x0200 0xB8, .read 0x0202 0x00]
      (fun t => t.pc == 0x0201 && !t.flagV) = true := by decide

/-- 95_test_vectors.md V203. -/
theorem test_NOP :
    runs (start 0x0200 [0xEA] [] |>.setA 0x01 |>.setX 0x02 |>.setY 0x03 |>.setC true |>.setZ true |>.setD true |>.setV true |>.setN true)
      [.read 0x0200 0xEA, .read 0x0202 0x00]
      (fun t => t.pc == 0x0201) = true := by decide

/-- 95_test_vectors.md V206. -/
theorem test_BRK_stack_wraps :
    runs (start 0x0200 [0x00] [(0xFFFE, 0x00), (0xFFFF, 0x03)] |>.setSp 0x01)
      [.read 0x0200 0x00, .internal, .write 0x0101 0x02, .write 0x0100 0x02, .write 0x01FF 0x34, .read 0xFFFE 0x00,
       .read 0xFFFF 0x03]
      (fun t => t.sp == 0xFE && t.pc == 0x0300) = true := by decide

/-- 95_test_vectors.md V208. -/
theorem test_RTI :
    runs (start 0x0200 [0x40] [(0x01FB, 0xC3), (0x01FC, 0x34), (0x01FD, 0x12)] |>.setSp 0xFA)
      [.read 0x0200 0x40, .internal, .internal, .read 0x01FB 0xC3, .read 0x01FC 0x34, .read 0x01FD 0x12]
      (fun t => t.sp == 0xFD && t.pc == 0x1234 && t.flagC && t.flagZ && !t.flagI && !t.flagD && t.flagV && t.flagN) = true := by decide

/-- 95_test_vectors.md V210. -/
theorem test_IRQ_after_NOP :
    runs (start 0x0200 [0xEA] [(0xFFFA, 0x00), (0xFFFB, 0x04), (0xFFFE, 0x00), (0xFFFF, 0x03)] |>.setI false |>.setIrq true)
      [.read 0x0200 0xEA, .read 0x0202 0x00, .internal, .write 0x01FD 0x02, .write 0x01FC 0x01, .write 0x01FB 0x20,
       .read 0xFFFE 0x00, .read 0xFFFF 0x03]
      (fun t => t.sp == 0xFA && t.pc == 0x0300 && t.flagI) = true := by decide

/-- 95_test_vectors.md V211. -/
theorem test_IRQ_masked :
    runs (start 0x0200 [0xEA] [(0xFFFA, 0x00), (0xFFFB, 0x04), (0xFFFE, 0x00), (0xFFFF, 0x03)] |>.setIrq true)
      [.read 0x0200 0xEA, .read 0x0202 0x00]
      (fun t => t.pc == 0x0201) = true := by decide

/-- 95_test_vectors.md V213. -/
theorem test_IRQ_after_SEI :
    runs (start 0x0200 [0x78] [(0xFFFA, 0x00), (0xFFFB, 0x04), (0xFFFE, 0x00), (0xFFFF, 0x03)] |>.setI false |>.setIrq true)
      [.read 0x0200 0x78, .read 0x0202 0x00, .internal, .write 0x01FD 0x02, .write 0x01FC 0x01, .write 0x01FB 0x24,
       .read 0xFFFE 0x00, .read 0xFFFF 0x03]
      (fun t => t.sp == 0xFA && t.pc == 0x0300 && t.flagI) = true := by decide

/-- 95_test_vectors.md V214. -/
theorem test_NMI_after_NOP :
    runs (start 0x0200 [0xEA] [(0xFFFA, 0x00), (0xFFFB, 0x04), (0xFFFE, 0x00), (0xFFFF, 0x03)] |>.setNmi true)
      [.read 0x0200 0xEA, .read 0x0202 0x00, .internal, .write 0x01FD 0x02, .write 0x01FC 0x01, .write 0x01FB 0x24,
       .read 0xFFFA 0x00, .read 0xFFFB 0x04]
      (fun t => t.sp == 0xFA && t.pc == 0x0400) = true := by decide

/-- 95_test_vectors.md V218. -/
theorem test_NMI_after_BRK :
    runs (start 0x0200 [0x00] [(0xFFFA, 0x00), (0xFFFB, 0x04), (0xFFFE, 0x00), (0xFFFF, 0x03)] |>.setNmi true)
      [.read 0x0200 0x00, .internal, .write 0x01FD 0x02, .write 0x01FC 0x02, .write 0x01FB 0x34, .read 0xFFFE 0x00,
       .read 0xFFFF 0x03, .internal, .write 0x01FA 0x03, .write 0x01F9 0x00, .write 0x01F8 0x24, .read 0xFFFA 0x00,
       .read 0xFFFB 0x04]
      (fun t => t.sp == 0xF7 && t.pc == 0x0400) = true := by decide

/-- 95_test_vectors.md V220. -/
theorem test_IRQ_after_PLP_that_sets_I :
    runs (start 0x0200 [0x28] [(0x01FD, 0x04), (0xFFFA, 0x00), (0xFFFB, 0x04), (0xFFFE, 0x00), (0xFFFF, 0x03)] |>.setSp 0xFC |>.setI false |>.setIrq true)
      [.read 0x0200 0x28, .read 0x0202 0x00, .internal, .read 0x01FD 0x04, .internal, .write 0x01FD 0x02,
       .write 0x01FC 0x01, .write 0x01FB 0x24, .read 0xFFFE 0x00, .read 0xFFFF 0x03]
      (fun t => t.sp == 0xFA && t.pc == 0x0300 && t.flagI) = true := by decide

/-- 95_test_vectors.md V221. -/
theorem test_IRQ_in_the_step_of_RTI :
    runs (start 0x0200 [0x40] [(0x01FB, 0x20), (0x01FC, 0x00), (0x01FD, 0x05), (0xFFFA, 0x00), (0xFFFB, 0x04), (0xFFFE, 0x00), (0xFFFF, 0x03)] |>.setSp 0xFA |>.setIrq true)
      [.read 0x0200 0x40, .internal, .internal, .read 0x01FB 0x20, .read 0x01FC 0x00, .read 0x01FD 0x05, .internal,
       .write 0x01FD 0x05, .write 0x01FC 0x00, .write 0x01FB 0x20, .read 0xFFFE 0x00, .read 0xFFFF 0x03]
      (fun t => t.pc == 0x0300) = true := by decide

/-- 95_test_vectors.md V222. -/
theorem test_no_IRQ_when_RTI_sets_I :
    runs (start 0x0200 [0x40] [(0x01FB, 0x24), (0x01FC, 0x00), (0x01FD, 0x05), (0xFFFA, 0x00), (0xFFFB, 0x04), (0xFFFE, 0x00), (0xFFFF, 0x03)] |>.setSp 0xFA |>.setIrq true)
      [.read 0x0200 0x40, .internal, .internal, .read 0x01FB 0x24, .read 0x01FC 0x00, .read 0x01FD 0x05]
      (fun t => t.sp == 0xFD && t.pc == 0x0500) = true := by decide

/-- 95_test_vectors.md V227. -/
theorem test_unsupported_02 :
    faults (start 0x0200 [0x02] [(0xFFFA, 0x00), (0xFFFB, 0x04), (0xFFFE, 0x00), (0xFFFF, 0x03)])
      [.read 0x0200 0x02]
      (fun t => t.pc == 0x0201) = true := by decide

/-- 95_test_vectors.md V228. -/
theorem test_unsupported_FF_services_nothing :
    faults (start 0x0200 [0xFF] [(0xFFFA, 0x00), (0xFFFB, 0x04), (0xFFFE, 0x00), (0xFFFF, 0x03)] |>.setI false |>.setIrq true)
      [.read 0x0200 0xFF]
      (fun t => t.pc == 0x0201) = true := by decide

/-- 95_test_vectors.md V231. -/
theorem test_unsupported_EB_writes_nothing :
    faults (start 0x0200 [0xEB, 0x01] [(0xFFFA, 0x00), (0xFFFB, 0x04), (0xFFFE, 0x00), (0xFFFF, 0x03)] |>.setA 0x05 |>.setC true)
      [.read 0x0200 0xEB]
      (fun t => t.a == 0x05 && t.pc == 0x0201) = true := by decide

/-! ## Reset, loader, and how a word comes to run -/

/-- 95_test_vectors.md V232: reset writes SP, I and PC and keeps A, X, Y and the other flags. -/
theorem test_reset_from_a_used_state :
    (let s := start 0x0200 [] [(0xFFFC, 0x34), (0xFFFD, 0x12)] |>.setA 0x55 |>.setSp 0x10 |>.setC true |>.setI false
      |>.setNmi true |>.setHalted true
    let t := s.hostReset
    t.pc == 0x1234 && t.sp == 0xFD && t.flagI && t.flagC && t.a == 0x55 && !t.nmiPending && !t.halted &&
      t.cycleCount == 0 && t.trace == []) = true := by decide

/-- 95_test_vectors.md V233: with nothing loaded the first step from reset is a BRK at 0x0000. -/
theorem test_first_step_from_reset_is_BRK :
    runs State.reset
      [.read 0x0000 0x00, .internal, .write 0x01FD 0x00, .write 0x01FC 0x02, .write 0x01FB 0x34, .read 0xFFFE 0x00,
       .read 0xFFFF 0x00]
      (fun t => t.pc == 0x0000 && t.sp == 0xFA) = true := by decide

/-- 95_test_vectors.md V237: a halted core refuses the step. -/
theorem test_halted_step_is_refused : step (State.reset.setHalted true) = .refused .halted := by rfl

/-- 95_test_vectors.md V238: the loader writes the image first and the reset vector last. -/
theorem test_loader_vector_wins :
    ((State.powerOn.loadProgram 0xFFFD [0x20, 0x00, 0x03] 0xFFFD).map fun s => (s.peek 0xFFFC, s.peek 0xFFFD)) =
      some (0xFD, 0xFF) := by decide

/-- 95_test_vectors.md V239: an image past the end of memory is refused. -/
theorem test_loader_out_of_range : (State.powerOn.loadProgram 0xFFFE [0, 0, 0, 0] 0x0200).isNone = true := by decide

/-- The word placed by `withFetchWord` is the one the next step runs. -/
theorem test_withFetchWord_runs :
    runs (State.reset.withFetchWord 16 0x05A9) [.read 0x0000 0xA9, .read 0x0001 0x05] (fun t => t.a == 0x05) = true :=
  by decide

/-- 93_implementation_defined.md U2: ADC with an operand nibble above 9 in decimal mode goes on. -/
theorem test_ADC_invalid_BCD_completes :
    (match step (start 0x0200 [0x69, 0x0A] [] |>.setD true) with
      | .next t => t.pc == 0x0202 && t.freeIndex == 1 && t.cycleCount == 2
      | _ => false) = true := by decide

/-! ## Witnesses: the hypotheses of each statement are met -/

theorem witness_EncodeOfDecode :
    decode [0xBD, 0xFF, 0xFF, 0x77] = .ok (.ldaAbsX 0xFFFF, [0x77]) ∧ decode [0x00] = .ok (.brk, []) := ⟨rfl, rfl⟩

theorem witness_LengthComesFromOpcodeByte :
    (decode [0x6C, 0xFF, 0xFF, 0x77] = .ok (.jmpInd 0xFFFF, [0x77])) ∧
    (decode [0xA9, 0x00] = .ok (.ldaImm 0x00, []) ∧ decode [0xA9, 0xFF, 0x01] = .ok (.ldaImm 0xFF, [0x01])) ∧
    (let s := start 0xFFFF [0xFF] []
     s.halted = false ∧ (s.peek s.pc).toNat ∈ unsupportedBytes) := ⟨rfl, ⟨rfl, rfl⟩, rfl, by decide⟩

theorem witness_StepRunsDecodedInstruction :
    let s := start 0xFFFE [0x4C, 0x34] [(0x0000, 0x12)]
    s.halted = false ∧
      decode [s.peek s.pc, s.peek (s.pc + 1), s.peek (s.pc + 2)] = .ok (.jmpAbs 0x1234, []) := ⟨rfl, rfl⟩

theorem witness_UnsupportedOpcodeSurfaces :
    (let s := start 0x0200 [0x02] []
     s.halted = false ∧ (s.peek s.pc).toNat ∈ unsupportedBytes) ∧
    (let s := start 0xFFFF [0xFF] [] |>.setNmi true |>.setPrev true
     s.halted = false ∧ (s.peek s.pc).toNat ∈ unsupportedBytes) := ⟨⟨rfl, by decide⟩, rfl, by decide⟩

theorem witness_HaltedCoreRefusesUntilReset : (State.powerOn.setHalted true).halted = true := rfl

theorem witness_EveryStepKeepsInvariant :
    let s := start 0xFFFF [0x85] [(0x0000, 0x10)] |>.setA 0x00
    Inv s ∧ ∃ t, step s = .next t := ⟨⟨rfl, rfl, rfl⟩, _, rfl⟩

theorem witness_EveryStepIsItsBusTrace :
    ∃ t, step (start 0x0200 [0xEA] [] |>.setI false |>.setIrq true) = .next t := ⟨_, rfl⟩

theorem witness_StepCycleBounds :
    (∃ t, step (start 0x0200 [0x00] [] |>.setNmi true) = .next t) ∧
    (∃ t, exec (.rorAbsX 0x12F0) (start 0x0200 [0x7E, 0xF0, 0x12] []).fetchOpcode = .next t) ∧
    (∃ op t, step (start 0x0200 [0xFF] []) = .fault (.unsupportedOpcode op t)) := ⟨⟨_, rfl⟩, ⟨_, rfl⟩, _, _, rfl⟩

theorem witness_EveryInstructionTakesItsCycles :
    (start 0x0200 [0x7E, 0xF0, 0x12] []).fetchOpcode.opcode = (Instr.rorAbsX 0x12F0).opcode ∧
    (start 0x00FD [0xF0, 0x01] [] |>.setZ true).fetchOpcode.opcode = (Instr.beq 0x01).opcode := ⟨rfl, rfl⟩

theorem witness_OnlyListedInstructionsWriteAFlag :
    (∃ t, exec .nop State.reset = .next t) ∧
    Instr.nop.asm.mnemonic ∉ [.ADC, .SBC, .CMP, .CPX, .CPY, .ASL, .LSR, .ROL, .ROR, .CLC, .SEC, .PLP, .RTI] ∧
    Instr.nop.asm.mnemonic ∉ [.LDA, .LDX, .LDY, .TAX, .TAY, .TXA, .TYA, .TSX, .PLA, .ADC, .SBC, .AND, .ORA, .EOR,
        .ASL, .LSR, .ROL, .ROR, .INC, .DEC, .INX, .INY, .DEX, .DEY, .CMP, .CPX, .CPY, .BIT, .PLP, .RTI] ∧
    Instr.nop.asm.mnemonic ∉ [.SEI, .CLI, .BRK, .PLP, .RTI] ∧
    Instr.nop.asm.mnemonic ∉ [.SED, .CLD, .PLP, .RTI] ∧
    Instr.nop.asm.mnemonic ∉ [.ADC, .SBC, .BIT, .CLV, .PLP, .RTI] := ⟨⟨_, rfl⟩, by decide⟩

theorem witness_DecimalFlagActsOnAdcAndSbcOnly :
    (Instr.php.asm.mnemonic ∉ [.ADC, .SBC] ∧ Instr.brk.asm.mnemonic ∉ [.ADC, .SBC]) ∧
    ((Instr.cmpImm 0x99).asm.mnemonic ∉ [.ADC, .SBC] ∧ (Instr.cmpImm 0x99).asm.mnemonic ∉ [.PHP, .BRK]) ∧
    (Instr.adcImm 0x99).asm.mnemonic ∉ [.SED, .CLD, .PLP, .RTI] ∧
    ∃ t, exec (.adcImm 0x99) (State.reset.setD true) = .next t := ⟨by decide, by decide, by decide, _, rfl⟩

theorem witness_EffectiveAddressOfEveryMode :
    (∀ v, AddrForm.indY 0xFF ≠ .imm v) ∧ ∀ v, AddrForm.ind 0xFFFF ≠ .imm v := ⟨nofun, nofun⟩

theorem witness_ReadModifyWriteBusPattern :
    (Instr.decAbsX 0xFFFF).asm = ⟨.DEC, .addr (.absX 0xFFFF)⟩ ∧
    Mnemonic.DEC ∈ [Mnemonic.ASL, .LSR, .ROL, .ROR, .INC, .DEC] := ⟨rfl, by decide⟩

theorem witness_LoadsLoad :
    (Instr.ldaIndY 0xFF).asm = ⟨.LDA, .addr (.indY 0xFF)⟩ ∧ (Instr.ldxZpY 0xFF).asm = ⟨.LDX, .addr (.zpY 0xFF)⟩ ∧
    (Instr.ldyImm 0x00).asm = ⟨.LDY, .addr (.imm 0x00)⟩ := ⟨rfl, rfl, rfl⟩

theorem witness_StoresStore :
    (Instr.staIndX 0xFF).asm = ⟨.STA, .addr (.indX 0xFF)⟩ ∧ (Instr.stxZpY 0xFF).asm = ⟨.STX, .addr (.zpY 0xFF)⟩ ∧
    (Instr.styAbs 0xFFFF).asm = ⟨.STY, .addr (.abs 0xFFFF)⟩ := ⟨rfl, rfl, rfl⟩

theorem witness_BinaryAddAndSubtract :
    State.reset.flagD = false ∧ (Instr.adcImm 0xFF).asm = ⟨.ADC, .addr (.imm 0xFF)⟩ ∧
    (Instr.sbcAbsX 0xFFFF).asm = ⟨.SBC, .addr (.absX 0xFFFF)⟩ := ⟨rfl, rfl, rfl⟩

theorem witness_DecimalAddAndSubtract :
    let s := State.reset.setD true |>.setA 0x99
    s.flagD = true ∧ validBcd s.a = true ∧ validBcd (s.operand (.imm 0x99)) = true ∧
    (Instr.adcImm 0x99).asm = ⟨.ADC, .addr (.imm 0x99)⟩ ∧ (Instr.sbcImm 0x99).asm = ⟨.SBC, .addr (.imm 0x99)⟩ :=
  ⟨rfl, rfl, rfl, rfl, rfl⟩

theorem witness_InvalidBcdStillCompletes :
    let s := State.reset.setD true
    s.flagD = true ∧ ¬(validBcd s.a = true ∧ validBcd (s.operand (.imm 0x0A)) = true) ∧
    (Instr.adcImm 0x0A).asm = ⟨.ADC, .addr (.imm 0x0A)⟩ ∧ (Instr.sbcImm 0x0A).asm = ⟨.SBC, .addr (.imm 0x0A)⟩ :=
  ⟨rfl, by decide, rfl, rfl⟩

theorem witness_LogicOperations :
    (Instr.andZp 0xFF).asm = ⟨.AND, .addr (.zp 0xFF)⟩ ∧ (Instr.oraAbs 0xFFFF).asm = ⟨.ORA, .addr (.abs 0xFFFF)⟩ ∧
    (Instr.eorIndX 0xFF).asm = ⟨.EOR, .addr (.indX 0xFF)⟩ := ⟨rfl, rfl, rfl⟩

theorem witness_BitTestsMemory : (Instr.bitAbs 0xFFFF).asm = ⟨.BIT, .addr (.abs 0xFFFF)⟩ := rfl

theorem witness_MemoryShifts :
    (Instr.aslZp 0xFF).asm = ⟨.ASL, .addr (.zp 0xFF)⟩ ∧ (Instr.lsrZpX 0xFF).asm = ⟨.LSR, .addr (.zpX 0xFF)⟩ ∧
    (Instr.rolAbs 0xFFFF).asm = ⟨.ROL, .addr (.abs 0xFFFF)⟩ ∧ (Instr.rorAbsX 0xFFFF).asm = ⟨.ROR, .addr (.absX 0xFFFF)⟩ :=
  ⟨rfl, rfl, rfl, rfl⟩

theorem witness_MemoryCounts :
    (Instr.incZpX 0xFF).asm = ⟨.INC, .addr (.zpX 0xFF)⟩ ∧ (Instr.decAbsX 0xFFFF).asm = ⟨.DEC, .addr (.absX 0xFFFF)⟩ :=
  ⟨rfl, rfl⟩

theorem witness_ComparesCompare :
    (Instr.cmpAbsY 0xFFFF).asm = ⟨.CMP, .addr (.absY 0xFFFF)⟩ ∧ (Instr.cpxImm 0xFF).asm = ⟨.CPX, .addr (.imm 0xFF)⟩ ∧
    (Instr.cpyZp 0xFF).asm = ⟨.CPY, .addr (.zp 0xFF)⟩ := ⟨rfl, rfl, rfl⟩

theorem witness_DecimalAddByNibbles : validBcd 0x99 = true ∧ validBcd 0x00 = true := ⟨rfl, rfl⟩

theorem witness_SubtractUndoesAddUnlessCarry :
    (addBinary 0x7E 0x80 true).carry = false ∧ (addBinary 0x7F 0x80 true).carry = true := ⟨rfl, rfl⟩

theorem witness_ReturnResumesAfterBreak :
    (let s := State.reset.setPrev true |>.setNmi true |>.setSp 0x01
     s.interruptPrevCycle = true ∧ (s.nmiPending = true ∨ s.irqPending = true)) ∧
    (let s := State.reset.setPrev true |>.setIrq true |>.setSp 0x02
     s.interruptPrevCycle = true ∧ (s.nmiPending = true ∨ s.irqPending = true)) := by decide

theorem witness_InterruptServiceFrame :
    (let s := State.reset.setPrev true |>.setNmi true |>.setIrq true
     s.interruptPrevCycle = true ∧ (s.nmiPending = true ∨ s.irqPending = true)) ∧
    (let s := State.reset.setPrev true |>.setIrq true |>.setSp 0x00
     s.interruptPrevCycle = true ∧ (s.nmiPending = true ∨ s.irqPending = true)) := by decide

theorem witness_PollLatchHasASource :
    ∃ t, exec .nop (State.reset.setI false |>.setIrq true).fetchOpcode = .next t ∧ t.interruptPrevCycle = true :=
  ⟨_, rfl, rfl⟩

theorem witness_WhenAChangeOfIActs :
    let s := State.reset.setIrq true
    s.interruptThisCycle = (s.nmiPending || (s.irqPending && !s.flagI)) := rfl

theorem witness_StaleLatchServicesNothing :
    let s := State.reset.setPrev true
    s.nmiPending = false ∧ s.irqPending = false ∧ ∃ t, step s = .next t := ⟨rfl, rfl, _, rfl⟩

end Sys2Proof.Tests
end

section
/-! Settles the statements of 10_state.md: the flag image (R17, R18) and the stack (R12). The facts first, one layer per
operation: the image's bits, Unpack, the stack address, and what memory holds after a BRK sequence and a service. -/

namespace Sys2Proof.Machine

open Sys2Proof

/-! ## The bits of a word -/

/-- Bit `i` by division, as the spec writes it (00_scope.md R8). -/
theorem getLsbD_eq_decide {w : Nat} (p : BitVec w) (i : Nat) : p.getLsbD i = decide (p.toNat / 2 ^ i % 2 = 1) := by
  rw [← BitVec.testBit_toNat, Nat.testBit_eq_decide_div_mod_eq]

/-- A flag appended below a word doubles it and adds the flag. -/
theorem append_ofBool_toNat {w : Nat} (x : BitVec w) (b : Bool) :
    (x ++ BitVec.ofBool b).toNat = 2 * x.toNat + b.toNat := by
  rw [Nat.mul_comm]
  exact BitVec.toNat_concat x b

/-- A flag appended below a word is its bit 0, and moves the other bits up by one. -/
theorem getLsbD_append_ofBool {w : Nat} (x : BitVec w) (b : Bool) (i : Nat) :
    (x ++ BitVec.ofBool b).getLsbD i = if i = 0 then b else x.getLsbD (i - 1) :=
  BitVec.getLsbD_concat x b i

/-! ## The flag image -/

/-- The image as flags appended one below the other, bit 5 being the constant 1 (R17). -/
theorem State.pack_eq (s : State) (b : Bool) :
    s.pack b =
      BitVec.ofBool s.flagN ++ BitVec.ofBool s.flagV ++ BitVec.ofBool true ++ BitVec.ofBool b ++
        BitVec.ofBool s.flagD ++ BitVec.ofBool s.flagI ++ BitVec.ofBool s.flagZ ++ BitVec.ofBool s.flagC := rfl

/-- The image as a number: Horner's rule over its eight bits (R17). -/
theorem State.pack_toNat (s : State) (b : Bool) :
    (s.pack b).toNat = s.flagC.toNat + 2 * s.flagZ.toNat + 4 * s.flagI.toNat + 8 * s.flagD.toNat + 16 * b.toNat + 32 +
      64 * s.flagV.toNat + 128 * s.flagN.toNat := by
  simp only [State.pack_eq, append_ofBool_toNat, BitVec.toNat_ofBool, Bool.toNat_true]
  omega

/-- The image's bits, from bit 0 up (R17). -/
theorem State.getLsbD_pack (s : State) (b : Bool) (i : Nat) :
    (s.pack b).getLsbD i = [s.flagC, s.flagZ, s.flagI, s.flagD, b, true, s.flagV, s.flagN].getD i false := by
  rcases Nat.lt_or_ge i 8 with hi | hi
  · rw [State.pack_eq]
    simp only [getLsbD_append_ofBool]
    interval_cases i <;> simp
  · rw [BitVec.getLsbD_of_ge _ _ hi, List.getD_eq_default _ _ hi]

/-- Unpack as one record update (R18). -/
theorem State.unpack_eq (s : State) (p : Byte) :
    s.unpack p = { s with
      flagC := p.getLsbD 0, flagZ := p.getLsbD 1, flagI := p.getLsbD 2, flagD := p.getLsbD 3
      flagV := p.getLsbD 6, flagN := p.getLsbD 7 } := rfl

/-- The flags read back from their own image are the flags (R18). -/
theorem State.unpack_pack (s : State) (b : Bool) : s.unpack (s.pack b) = s := by
  simp [State.unpack_eq, State.getLsbD_pack, -BitVec.getLsbD_eq_getElem]

/-- The image of unpacked flags: bits 4 and 5 are b and 1, every other bit is p's (R18). -/
theorem State.pack_unpack (s : State) (p : Byte) (b : Bool) :
    (s.unpack p).pack b = (p &&& 0xCF) ||| 0x20 ||| (if b then 0x10 else 0) := by
  apply BitVec.eq_of_getLsbD_eq
  intro i hi
  rw [State.getLsbD_pack]
  interval_cases i <;> cases b <;> simp [State.unpack_eq]

/-! ## The stack -/

/-- The stack address as R11 writes it. -/
theorem stackAddr_eq_or (sp : Byte) : stackAddr sp = 0x0100 ||| zext16 sp := by
  apply BitVec.eq_of_toNat_eq
  rw [stackAddr, joinBytes_toNat, BitVec.toNat_or, zext16_toNat]
  exact Nat.two_pow_add_eq_or_of_lt sp.isLt 1

@[simp] theorem State.push_sp (s : State) (v : Byte) : (s.push v).sp = s.sp - 1 := rfl
@[simp] theorem State.dummyNext_sp (s : State) : s.dummyNext.sp = s.sp := rfl

@[simp] theorem State.pack_push (s : State) (v : Byte) (b : Bool) : (s.push v).pack b = s.pack b := rfl
@[simp] theorem State.pack_setPc (s : State) (v : Addr) (b : Bool) : (s.setPc v).pack b = s.pack b := rfl
@[simp] theorem State.pack_internal (s : State) (b : Bool) : s.internal.pack b = s.pack b := rfl
@[simp] theorem State.peek_setPrev (s : State) (v : Bool) (a : Addr) : (s.setPrev v).peek a = s.peek a := rfl
@[simp] theorem State.peek_loadVector (s : State) (vector a : Addr) : (s.loadVector vector).peek a = s.peek a := rfl

/-! ## Internal cycles before a service -/

@[simp] theorem State.arch_internals (n : Nat) (s : State) : (State.internals n s).arch = s.arch := by
  induction n generalizing s with
  | zero => rfl
  | succ n ih => rw [State.internals, ih, State.arch_internal]

@[simp] theorem State.mem_internals (n : Nat) (s : State) : (State.internals n s).mem = s.mem := by
  induction n generalizing s with
  | zero => rfl
  | succ n ih => rw [State.internals, ih, State.internal_mem]

@[simp] theorem State.pack_internals (n : Nat) (s : State) (b : Bool) : (State.internals n s).pack b = s.pack b := by
  induction n generalizing s with
  | zero => rfl
  | succ n ih => rw [State.internals, ih, State.pack_internal]

/-! ## What is pushed -/

/-- Memory after a BRK sequence: the flag image below the two bytes of PC + 1, high byte first, and everything
else as before (47_system_flags_stack.md R211). -/
theorem State.peek_brkSequence (s : State) (b : Bool) (vector a : Addr) :
    (s.brkSequence b vector).peek a =
      if a = stackAddr (s.sp - 2) then s.pack b
      else if a = stackAddr (s.sp - 1) then lo8 (s.pc + 1)
      else if a = stackAddr s.sp then hi8 (s.pc + 1)
      else s.peek a := by
  have two_pushes : s.sp - 2 = s.sp - 1 - 1 := by bv_omega
  rw [two_pushes]
  simp only [State.brkSequence, State.peek_loadVector, State.peek_setI, State.peek_push, State.peek_setPc,
    State.peek_internal, State.push_sp, State.setPc_sp, State.internal_sp, State.setPc_pc, State.internal_pc,
    State.pack_push, State.pack_setPc, State.pack_internal]
  rfl

/-- Memory after a service: as after a BRK sequence, the PC pushed being the one the instruction left, and bit 4 of the
image clear (60_exceptions.md R250). -/
theorem State.peek_service (extra : Nat) (s : State) (vector a : Addr) :
    (s.service extra vector).peek a =
      if a = stackAddr (s.sp - 2) then s.pack false
      else if a = stackAddr (s.sp - 1) then lo8 s.pc
      else if a = stackAddr s.sp then hi8 s.pc
      else s.peek a := by
  have sp_eq : (State.internals extra s).sp = s.sp := congrArg Arch.sp (s.arch_internals extra)
  have pc_eq : (State.internals extra s).pc = s.pc := congrArg Arch.pc (s.arch_internals extra)
  have peek_eq := State.peek_congr (State.mem_internals extra s) a
  simp [State.service, State.peek_brkSequence, sp_eq, pc_eq, peek_eq]

/-! ## The obligations -/

/-- Settles O49: the image's value is read off its appended flags; PHP pushes it; BRK and a service run the BRK sequence,
which pushes it third, two below SP. -/
theorem packedFlagImage : Obligations.PackedFlagImage := by
  refine ⟨State.pack_toNat, fun s => ⟨s.php, rfl, ?_⟩, fun s => ⟨s.brk, rfl, ?_⟩, fun s extra vector => ?_⟩
  · simp [State.php, State.peek_push]
  · simp [State.brk, State.peek_brkSequence]
  · simp [State.peek_service]

/-- Settles O50: Unpack is one record update by six bits of p, and the image's bits are known one by one. -/
theorem unpackRestoresFlags : Obligations.UnpackRestoresFlags := by
  refine ⟨fun s p => ?_, State.unpack_pack, State.pack_unpack⟩
  simp [State.unpack_eq, getLsbD_eq_decide, -BitVec.getLsbD_eq_getElem]

/-- Settles O51: Push is a write cycle at the old stack address, Pull a read cycle at the new one, and SP moves by one
modulo 256. -/
theorem pushAndPull : Obligations.PushAndPull := by
  intro s v
  have down : s.sp - 1 = BitVec.ofNat 8 (s.sp.toNat + 255) := by bv_omega
  have up : s.sp + 1 = BitVec.ofNat 8 (s.sp.toNat + 1) := by bv_omega
  simp only [← stackAddr_eq_or]
  refine ⟨⟨?_, rfl, rfl⟩, ?_, rfl, rfl, rfl⟩
  · rw [← down]
    rfl
  · rw [← up]
    rfl

end Sys2Proof.Machine
end

section
/-! PROOFS of the statements about the bus (20_memory.md): what one read cycle, one write cycle and the end of a cycle
do to memory, the bus cells and the poll latches. -/

namespace Sys2Proof.Machine

open Sys2Proof

/-! ## Memory across one bus cycle -/

/-- The byte a write cycle stores is the byte its address then holds (R44). -/
@[simp] theorem State.peek_memWrite_same (s : State) (a : Addr) (v : Byte) : (s.memWrite a v).peek a = v := by
  rw [State.peek_memWrite, if_pos rfl]

/-- No byte but the one at its address is changed by a write cycle (R44). -/
theorem State.sameMemoryBut_memWrite (s : State) (a : Addr) (v : Byte) : SameMemoryBut [a] s (s.memWrite a v) := by
  intro b hb
  have hne : b ≠ a := fun h => hb (List.mem_singleton.mpr h)
  rw [State.peek_memWrite, if_neg hne]

/-- A read cycle changes no byte (R43). -/
theorem State.sameMemoryBut_memRead (s : State) (a : Addr) : SameMemoryBut [] s (s.memRead a) :=
  fun b _ => State.peek_memRead s a b

/-! ## The obligations -/

/-- Settles O54: each cycle drives its cells and then ends (R46, R47), which is how the two are defined; what it leaves
in memory is the layer above. -/
theorem busCyclesTransferOneByte : Obligations.BusCyclesTransferOneByte :=
  fun s a v => ⟨rfl, s.sameMemoryBut_memRead a, rfl, s.peek_memWrite_same a v, s.sameMemoryBut_memWrite a v⟩

/-- Settles O55: the order of R49 is the order in which the end of a cycle reads the state it is given, so both latches
take values from before the cycle's end. -/
theorem endOfCycle : Obligations.EndOfCycle := fun _ _ => rfl

end Sys2Proof.Machine
end

section
/-! PROOFS of the statements of 42_arithmetic.md: the binary addition (R141), and what the decimal flag acts on (R147).
An operation that looks at nothing D decides commutes with a write of D, so it also leaves D as it is; the facts about
single operations come first. -/

namespace Sys2Proof.Machine

open Sys2Proof

/-! ## Binary addition -/

/-- The sign bit by the mask the rule writes (R141). -/
theorem msb_eq_decide_mask (v : Byte) : v.msb = decide (v &&& 0x80 ≠ 0) := by
  have mask : (0x80 : Byte) = BitVec.twoPow 8 7 := rfl
  rw [mask, BitVec.and_twoPow, BitVec.msb_eq_getLsbD_last]
  cases v.getLsbD 7 <;> rfl

/-- The result byte is the sum modulo 256 (R141). -/
theorem addBinary_value_toNat (a m : Byte) (c : Bool) :
    (addBinary a m c).value.toNat = (a.toNat + m.toNat + c.toNat) % 256 :=
  BitVec.toNat_ofNat _ 8

/-- V by sign bits: the result's differs from that of a, and m's does not (R141). -/
theorem addBinary_overflow_eq_msb (a m : Byte) (c : Bool) :
    (addBinary a m c).overflow = ((a ^^^ (addBinary a m c).value).msb && !(a ^^^ m).msb) := rfl

/-- V by halves of the byte's range: a and m lie in one half, the result in the other. -/
theorem addBinary_overflow_iff_halves (a m : Byte) (c : Bool) :
    (addBinary a m c).overflow = true ↔
      ¬(128 ≤ a.toNat ↔ 128 ≤ (addBinary a m c).value.toNat) ∧ (128 ≤ a.toNat ↔ 128 ≤ m.toNat) := by
  rw [addBinary_overflow_eq_msb, BitVec.msb_xor, BitVec.msb_xor]
  simp [BitVec.msb_eq_decide]

/-- V is signed overflow: the signed sum is no byte in two's complement (R141). -/
theorem addBinary_overflow_iff_signed (a m : Byte) (c : Bool) :
    (addBinary a m c).overflow = true ↔
      a.toInt + m.toInt + c.toNat < -128 ∨ 127 < a.toInt + m.toInt + c.toNat := by
  have carry_le_one := c.toNat_le
  rw [addBinary_overflow_iff_halves, addBinary_value_toNat, BitVec.toInt_eq_toNat_cond, BitVec.toInt_eq_toNat_cond]
  omega

/-! ## A write of D commutes with every other write and with every cycle -/

@[simp] theorem State.setA_setD (s : State) (d : Bool) (v : Byte) : (s.setD d).setA v = (s.setA v).setD d := rfl
@[simp] theorem State.setX_setD (s : State) (d : Bool) (v : Byte) : (s.setD d).setX v = (s.setX v).setD d := rfl
@[simp] theorem State.setY_setD (s : State) (d : Bool) (v : Byte) : (s.setD d).setY v = (s.setY v).setD d := rfl
@[simp] theorem State.setSp_setD (s : State) (d : Bool) (v : Byte) : (s.setD d).setSp v = (s.setSp v).setD d := rfl
@[simp] theorem State.setPc_setD (s : State) (d : Bool) (v : Addr) : (s.setD d).setPc v = (s.setPc v).setD d := rfl
@[simp] theorem State.setC_setD (s : State) (d b : Bool) : (s.setD d).setC b = (s.setC b).setD d := rfl
@[simp] theorem State.setZ_setD (s : State) (d b : Bool) : (s.setD d).setZ b = (s.setZ b).setD d := rfl
@[simp] theorem State.setI_setD (s : State) (d b : Bool) : (s.setD d).setI b = (s.setI b).setD d := rfl
@[simp] theorem State.setV_setD (s : State) (d b : Bool) : (s.setD d).setV b = (s.setV b).setD d := rfl
@[simp] theorem State.setN_setD (s : State) (d b : Bool) : (s.setD d).setN b = (s.setN b).setD d := rfl
@[simp] theorem State.setNZ_setD (s : State) (d : Bool) (v : Byte) : (s.setD d).setNZ v = (s.setNZ v).setD d := rfl

@[simp] theorem State.peek_setD (s : State) (d : Bool) (a : Addr) : (s.setD d).peek a = s.peek a := rfl
@[simp] theorem State.pulled_setD (s : State) (d : Bool) : (s.setD d).pulled = s.pulled := rfl

@[simp] theorem State.memRead_setD (s : State) (d : Bool) (a : Addr) :
    (s.setD d).memRead a = (s.memRead a).setD d := rfl
@[simp] theorem State.memWrite_setD (s : State) (d : Bool) (a : Addr) (v : Byte) :
    (s.setD d).memWrite a v = (s.memWrite a v).setD d := rfl
@[simp] theorem State.internal_setD (s : State) (d : Bool) : (s.setD d).internal = s.internal.setD d := rfl
@[simp] theorem State.fetchByte_setD (s : State) (d : Bool) : (s.setD d).fetchByte = s.fetchByte.setD d := rfl
@[simp] theorem State.dummyNext_setD (s : State) (d : Bool) : (s.setD d).dummyNext = s.dummyNext.setD d := rfl
@[simp] theorem State.push_setD (s : State) (d : Bool) (v : Byte) : (s.setD d).push v = (s.push v).setD d := rfl
@[simp] theorem State.pull_setD (s : State) (d : Bool) : (s.setD d).pull = s.pull.setD d := rfl

/-- A choice made without D commutes with a write of D. -/
@[simp] theorem State.ite_setD (p : Prop) [Decidable p] (s t : State) (d : Bool) :
    (if p then s.setD d else t.setD d) = (if p then s else t).setD d :=
  (apply_ite (State.setD · d) p s t).symm

/-! ## The addressing modes do not look at D -/

theorem State.index_setD (s : State) (d : Bool) (base : Addr) (idx : Byte) :
    (s.setD d).index base idx = ((s.index base idx).1, (s.index base idx).2.setD d) := by
  simp [State.index]

@[simp] theorem State.resolve_setD (s : State) (d : Bool) (f : AddrForm) :
    (s.setD d).resolve f = ((s.resolve f).1, (s.resolve f).2.setD d) := by
  cases f
  case absX a => exact s.fetchByte.fetchByte.index_setD d a s.x
  case absY a => exact s.fetchByte.fetchByte.index_setD d a s.y
  case indY z => exact (s.fetchByte.readZpPointer z).index_setD d (s.zpPointer z) s.y
  all_goals rfl

@[simp] theorem State.operand_setD (s : State) (d : Bool) (f : AddrForm) : (s.setD d).operand f = s.operand f := by
  cases f <;> simp [State.operand]

@[simp] theorem State.readOperand_setD (s : State) (d : Bool) (f : AddrForm) :
    (s.setD d).readOperand f = (s.readOperand f).setD d := by
  simp [State.readOperand]

@[simp] theorem State.storeOperand_setD (s : State) (d : Bool) (f : AddrForm) (v : Byte) :
    (s.setD d).storeOperand f v = (s.storeOperand f v).setD d := by
  simp [State.storeOperand]

@[simp] theorem State.modifyOperand_setD (s : State) (d : Bool) (f : AddrForm) (r : Byte) :
    (s.setD d).modifyOperand f r = (s.modifyOperand f r).setD d := by
  simp [State.modifyOperand]

@[simp] theorem State.branch_setD (s : State) (d taken : Bool) (disp : Byte) :
    (s.setD d).branch taken disp = (s.branch taken disp).setD d := by
  cases taken
  case false => simp [State.branch]
  case true =>
    by_cases samePage : hi8 s.fetchByte.pc = hi8 (s.fetchByte.pc + sext16 disp) <;> simp [State.branch, samePage]

/-! ## The registers after a BRK sequence -/

/-- An address off the stack page is no stack address (10_state.md R11). -/
theorem ne_stackAddr {a : Addr} (offStackPage : hi8 a ≠ 0x01) (sp : Byte) : a ≠ stackAddr sp := by
  rintro rfl
  exact offStackPage (hi8_joinBytes 0x01 sp)

/-- A BRK sequence moves SP by three, sets I and loads PC from the vector as the pushes left it
(47_system_flags_stack.md R211). -/
theorem State.arch_brkSequence (s : State) (b : Bool) (vector : Addr) :
    (s.brkSequence b vector).arch =
      { s.arch with
        sp := s.sp - 3, flagI := true
        pc := joinBytes ((s.brkSequence b vector).peek (vector + 1)) ((s.brkSequence b vector).peek vector) } := by
  have three_pushes : s.sp - 1#8 - 1#8 - 1#8 = s.sp - 3#8 := by bv_omega
  simp [State.brkSequence, State.loadVector, three_pushes]

/-- BRK's vector is off the stack page, so its pushes do not change it (47_system_flags_stack.md R210). -/
theorem State.arch_brk (s : State) :
    s.brk.arch =
      { s.arch with
        sp := s.sp - 3, flagI := true, pc := joinBytes (s.peek (irqVector + 1)) (s.peek irqVector) } := by
  have lo_ne := ne_stackAddr (a := irqVector) (by decide)
  have hi_ne := ne_stackAddr (a := irqVector + 1) (by decide)
  rw [State.brk, State.arch_brkSequence]
  simp only [State.peek_brkSequence, lo_ne, hi_ne, if_false]

theorem State.arch_php (s : State) : s.php.arch = { s.arch with sp := s.sp - 1 } := State.arch_push _ _

/-! ## Who leaves D as it is -/

@[simp] theorem State.flagD_brkSequence (s : State) (b : Bool) (vector : Addr) :
    (s.brkSequence b vector).flagD = s.flagD :=
  congrArg Arch.flagD (s.arch_brkSequence b vector)

/-- A service leaves D as it is (R147). -/
theorem State.flagD_service (extra : Nat) (s : State) (vector : Addr) : (s.service extra vector).flagD = s.flagD := by
  have flagD_internals : (State.internals extra s).flagD = s.flagD := congrArg Arch.flagD (s.arch_internals extra)
  simp [State.service, flagD_internals]

theorem State.flagD_pollAndService (s : State) : s.pollAndService.flagD = s.flagD := by
  obtain ⟨-, h⟩ | ⟨-, -, h⟩ | ⟨-, -, -, h⟩ | ⟨-, -, -, h⟩ := s.pollAndService_cases <;>
    simp [h, State.flagD_service]

theorem State.flagD_readOperand (s : State) (f : AddrForm) : (s.readOperand f).flagD = s.flagD :=
  congrArg Arch.flagD (s.arch_readOperand f)

theorem State.flagD_adcOperand (s : State) (f : AddrForm) : (s.adcOperand f).flagD = s.flagD := by
  rw [← s.flagD_readOperand f, State.adcOperand, State.adc]
  split <;> rfl

theorem State.flagD_sbcOperand (s : State) (f : AddrForm) : (s.sbcOperand f).flagD = s.flagD := by
  rw [← s.flagD_readOperand f, State.sbcOperand, State.sbc]
  split <;> rfl

/-! ## The four ways an instruction treats D -/

/-- Every instruction but eight commutes with a write of D: it neither reads D, nor stores it, nor writes it. -/
theorem exec_setD (i : Instr) (s : State)
    (hi : i.asm.mnemonic ∉ [.ADC, .SBC, .PHP, .BRK, .SED, .CLD, .PLP, .RTI]) :
    ∃ t, exec i s = .next t ∧ ∀ d, exec i (s.setD d) = .next (t.setD d) := by
  cases i <;> simp [Instr.asm] at hi
  all_goals
    refine ⟨_, rfl, fun d => congrArg Host.Outcome.next ?_⟩
    simp [State.lda, State.ldx, State.ldy, State.sta, State.stx, State.sty, State.tax, State.tay, State.txa,
      State.tya, State.tsx, State.txs, State.logicResult, State.and, State.ora, State.eor, State.bit, State.bitTest,
      State.shiftFlags, State.shiftAcc, State.shiftMem, State.aslAcc, State.aslMem, State.lsrAcc, State.lsrMem,
      State.rolAcc, State.rolMem, State.rorAcc, State.rorMem, State.inc, State.dec, State.inx, State.iny, State.dex,
      State.dey, State.compare, State.cmp, State.cpx, State.cpy, State.jmp, State.jsr, State.rts, State.pha, State.pla]

/-- SED, CLD, PLP and RTI write D without looking at it. -/
theorem exec_setD_of_writesD (i : Instr) (s : State) (hi : i.asm.mnemonic ∈ [.SED, .CLD, .PLP, .RTI]) :
    ∃ t, exec i s = .next t ∧ ∀ d, exec i (s.setD d) = .next t := by
  cases i <;> simp [Instr.asm] at hi
  all_goals exact ⟨_, rfl, fun _ => rfl⟩

/-- PHP and BRK store D in the flag image: no register and no other flag depends on it. -/
theorem exec_setD_of_storesD (i : Instr) (s : State) (hi : i.asm.mnemonic ∈ [.PHP, .BRK]) :
    ∃ t, exec i s = .next t ∧ ∀ d, ∃ u, exec i (s.setD d) = .next u ∧ u.arch = { t.arch with flagD := d } := by
  cases i <;> simp [Instr.asm] at hi
  case php => exact ⟨s.php, rfl, fun d => ⟨(s.setD d).php, rfl, by simp [State.arch_php]⟩⟩
  case brk => exact ⟨s.brk, rfl, fun d => ⟨(s.setD d).brk, rfl, by simp [State.arch_brk]⟩⟩

/-- ADC and SBC read D and leave it as it is. -/
theorem exec_flagD_of_readsD (i : Instr) (s : State) (hi : i.asm.mnemonic ∈ [.ADC, .SBC]) :
    ∃ t, exec i s = .next t ∧ t.flagD = s.flagD := by
  cases i <;> simp [Instr.asm] at hi
  case adcImm | adcZp | adcZpX | adcAbs | adcAbsX | adcAbsY | adcIndX | adcIndY =>
    exact ⟨_, rfl, State.flagD_adcOperand s _⟩
  case sbcImm | sbcZp | sbcZpX | sbcAbs | sbcAbsX | sbcAbsY | sbcIndX | sbcIndY =>
    exact ⟨_, rfl, State.flagD_sbcOperand s _⟩

/-- An instruction that neither reads nor writes D gives registers in which only D follows D; PHP and BRK differ from
the others in memory alone. -/
theorem exec_setD_arch (i : Instr) (s : State) (reads : i.asm.mnemonic ∉ [.ADC, .SBC])
    (writes : i.asm.mnemonic ∉ [.SED, .CLD, .PLP, .RTI]) :
    ∃ t, exec i s = .next t ∧ ∀ d, ∃ u, exec i (s.setD d) = .next u ∧ u.arch = { t.arch with flagD := d } ∧
      (i.asm.mnemonic ∉ [.PHP, .BRK] → u = t.setD d) := by
  by_cases stores : i.asm.mnemonic ∈ [.PHP, .BRK]
  · obtain ⟨t, ht, hu⟩ := exec_setD_of_storesD i s stores
    refine ⟨t, ht, fun d => ?_⟩
    obtain ⟨u, hu, arch⟩ := hu d
    exact ⟨u, hu, arch, fun h => absurd stores h⟩
  · obtain ⟨t, ht, hu⟩ := exec_setD i s (by simp_all)
    exact ⟨t, ht, fun d => ⟨t.setD d, hu d, rfl, fun _ => rfl⟩⟩

/-- D changes nothing but itself and the stored flag image, unless the instruction is ADC or SBC (R147). -/
theorem exec_congr_setD (i : Instr) (s : State) (d : Bool) (reads : i.asm.mnemonic ∉ [.ADC, .SBC]) :
    ∃ t u, exec i s = .next t ∧ exec i (s.setD d) = .next u ∧ { u.arch with flagD := t.flagD } = t.arch ∧
      (i.asm.mnemonic ∉ [.PHP, .BRK] → u.setD t.flagD = t) := by
  by_cases writes : i.asm.mnemonic ∈ [.SED, .CLD, .PLP, .RTI]
  · obtain ⟨t, ht, hu⟩ := exec_setD_of_writesD i s writes
    exact ⟨t, t, ht, hu d, rfl, fun _ => rfl⟩
  · obtain ⟨t, ht, hu⟩ := exec_setD_arch i s reads writes
    obtain ⟨u, hu, arch, eq⟩ := hu d
    refine ⟨t, u, ht, hu, by rw [arch]; rfl, fun h => by rw [eq h]; rfl⟩

/-- Only SED, CLD, PLP and RTI change D (R147): what follows D whatever its value keeps the value it has. -/
theorem exec_flagD (i : Instr) (s t : State) (writes : i.asm.mnemonic ∉ [.SED, .CLD, .PLP, .RTI])
    (ht : exec i s = .next t) : t.flagD = s.flagD := by
  by_cases reads : i.asm.mnemonic ∈ [.ADC, .SBC]
  · obtain ⟨t', ht', flagD_eq⟩ := exec_flagD_of_readsD i s reads
    rw [ht] at ht'
    cases ht'
    exact flagD_eq
  · obtain ⟨t', ht', hu⟩ := exec_setD_arch i s reads writes
    obtain ⟨u, hu, arch, -⟩ := hu s.flagD
    have same : exec i s = .next u := hu
    rw [ht] at ht' same
    cases ht'
    cases same
    exact congrArg Arch.flagD arch

/-! ## The obligations -/

/-- Settles O17: an instruction either commutes with a write of D, or writes D unread, or stores it; the last clauses are
the flag frames of the poll and of reset. -/
theorem decimalFlagActsOnAdcAndSbcOnly : Obligations.DecimalFlagActsOnAdcAndSbcOnly :=
  ⟨fun i s reads => exec_congr_setD i s (!s.flagD) reads, exec_flagD, State.flagD_pollAndService, fun _ => rfl⟩

/-- Settles O43: V is read by halves of the byte's range, where the formula and the signed sum meet. -/
theorem addBinaryOverflowIsSigned : Obligations.AddBinaryOverflowIsSigned := by
  intro a m c
  refine ⟨addBinary_value_toNat a m c, rfl, ?_, addBinary_overflow_iff_signed a m c⟩
  simp [addBinary_overflow_eq_msb, msb_eq_decide_mask]

end Sys2Proof.Machine
end

section
/-! PROOFS of the statement about the shift functions of 44_shift_incdec.md (R160): each of the four in numbers, then the
ring of the byte and the carry that a rotation turns by one place. -/

namespace Sys2Proof.Machine

open Sys2Proof

/-! ## The shift functions in numbers -/

/-- Bit 7 of a byte by the half of its range, as `Asl` and `Rol` shift it out (R160). -/
theorem getLsbD_seven_eq_decide (v : Byte) : v.getLsbD 7 = decide (128 ≤ v.toNat) :=
  BitVec.msb_eq_decide v

/-- Bit 0 of a byte by its parity, as `Lsr` and `Ror` shift it out (R160). -/
theorem getLsbD_zero_eq_decide (v : Byte) : v.getLsbD 0 = decide (v.toNat % 2 = 1) := by
  rw [getLsbD_eq_decide, Nat.pow_zero, Nat.div_one]

theorem asl_eq_ofNat (v : Byte) : asl v = (BitVec.ofNat 8 (2 * v.toNat), decide (128 ≤ v.toNat)) := by
  refine Prod.ext (BitVec.eq_of_toNat_eq ?_) (getLsbD_seven_eq_decide v)
  rw [asl, BitVec.toNat_shiftLeft, BitVec.toNat_ofNat, Nat.shiftLeft_eq, Nat.mul_comm]

theorem lsr_eq_ofNat (v : Byte) : lsr v = (BitVec.ofNat 8 (v.toNat / 2), decide (v.toNat % 2 = 1)) := by
  refine Prod.ext (BitVec.eq_of_toNat_eq ?_) (getLsbD_zero_eq_decide v)
  have value : (lsr v).1.toNat = v.toNat / 2 := BitVec.toNat_ushiftRight v 1
  rw [value, BitVec.toNat_ofNat]
  omega

/-- The low seven bits move up by one above the old carry. -/
theorem rol_eq_ofNat (v : Byte) (c : Bool) :
    rol v c = (BitVec.ofNat 8 (2 * v.toNat + c.toNat), decide (128 ≤ v.toNat)) := by
  refine Prod.ext (BitVec.eq_of_toNat_eq ?_) (getLsbD_seven_eq_decide v)
  have value : (rol v c).1.toNat = 2 * (v.toNat % 128) + c.toNat := by
    simp [rol, append_ofBool_toNat]
  have carry_le_one := c.toNat_le
  rw [value, BitVec.toNat_ofNat]
  omega

/-- `Ror` puts the old carry above the high seven bits, which move down by one (R160). -/
theorem ror_eq_cons (v : Byte) (c : Bool) : ror v c = (BitVec.cons c (v.extractLsb' 1 7), v.getLsbD 0) := rfl

theorem ror_eq_ofNat (v : Byte) (c : Bool) :
    ror v c = (BitVec.ofNat 8 (v.toNat / 2 + 128 * c.toNat), decide (v.toNat % 2 = 1)) := by
  refine Prod.ext (BitVec.eq_of_toNat_eq ?_) (getLsbD_zero_eq_decide v)
  have value : (ror v c).1.toNat = c.toNat * 128 + v.toNat / 2 % 128 := by
    rw [ror_eq_cons, BitVec.toNat_cons', BitVec.extractLsb'_toNat, Nat.shiftLeft_eq, Nat.shiftRight_eq_div_pow]
  have carry_le_one := c.toNat_le
  rw [value, BitVec.toNat_ofNat]
  omega

/-- `Lsr` leaves less than half of the byte's range, so bit 7 is clear (R160: "N always cleared"). -/
theorem getLsbD_seven_lsr (v : Byte) : (lsr v).1.getLsbD 7 = false := by
  rw [getLsbD_seven_eq_decide, lsr_eq_ofNat, BitVec.toNat_ofNat, decide_eq_false_iff_not]
  omega

/-! ## The ring of the byte and the carry -/

/-- The 9-bit ring of R160, place by place: the byte's bits from bit 0 up, then the carry. -/
def carryRing (p : Byte × Bool) (i : Fin 9) : Bool := if i = 8 then p.2 else p.1.getLsbD i

/-- The ring holds all of the byte and the carry. -/
theorem carryRing_injective : Function.Injective carryRing := by
  intro p q same
  have byte (i : Nat) (hi : i < 8) : p.1.getLsbD i = q.1.getLsbD i := by
    have place : (⟨i, by omega⟩ : Fin 9) ≠ 8 := Fin.ne_of_lt hi
    simpa only [carryRing, if_neg place] using congrFun same ⟨i, by omega⟩
  exact Prod.ext (BitVec.eq_of_getLsbD_eq byte) (congrFun same 8)

/-- `Rol` turns the ring by one place (R160). -/
theorem carryRing_rol (p : Byte × Bool) (i : Fin 9) :
    carryRing (Function.uncurry rol p) (i + 1) = carryRing p i := by
  obtain ⟨v, c⟩ := p
  fin_cases i <;> simp [carryRing, rol, getLsbD_append_ofBool, -BitVec.getLsbD_eq_getElem]

/-- `Ror` turns the ring back by one place (R160). -/
theorem carryRing_ror (p : Byte × Bool) (i : Fin 9) :
    carryRing (Function.uncurry ror p) i = carryRing p (i + 1) := by
  obtain ⟨v, c⟩ := p
  fin_cases i <;> simp [carryRing, ror_eq_cons, BitVec.getLsbD_cons, -BitVec.getLsbD_eq_getElem]

/-- `Ror` undoes `Rol`: the bit shifted out goes back in. -/
theorem ror_leftInverse_rol : Function.LeftInverse (Function.uncurry ror) (Function.uncurry rol) := fun p =>
  carryRing_injective (funext fun i => (carryRing_ror _ i).trans (carryRing_rol p i))

/-- `n` `Rol`s turn the ring by `n` places. -/
theorem carryRing_iterate_rol (p : Byte × Bool) (i : Fin 9) (n : Nat) :
    carryRing ((Function.uncurry rol)^[n] p) ((· + 1)^[n] i) = carryRing p i := by
  induction n with
  | zero => rfl
  | succ n ih => rw [Function.iterate_succ_apply', Function.iterate_succ_apply', carryRing_rol, ih]

/-- Nine `Rol`s turn the ring through all its nine places (R160). -/
theorem iterate_rol_nine (p : Byte × Bool) : (Function.uncurry rol)^[9] p = p := by
  have full_turn : ∀ i : Fin 9, (· + 1)^[9] i = i := by decide
  refine carryRing_injective (funext fun i => ?_)
  simpa only [full_turn] using carryRing_iterate_rol p i 9

/-- Nine `Ror`s undo nine `Rol`s, which change nothing (R160). -/
theorem iterate_ror_nine (p : Byte × Bool) : (Function.uncurry ror)^[9] p = p := by
  have undone := ror_leftInverse_rol.iterate 9 p
  rwa [iterate_rol_nine] at undone

/-! ## The obligations -/

/-- Settles O47: the four functions in numbers, and the ring turned by nine places of its nine. -/
theorem shiftFunctionsAndNineRotations : Obligations.ShiftFunctionsAndNineRotations :=
  fun v c => ⟨asl_eq_ofNat v, lsr_eq_ofNat v, rol_eq_ofNat v c, ror_eq_ofNat v c, getLsbD_seven_lsr v,
    iterate_rol_nine (v, c), iterate_ror_nine (v, c)⟩

end Sys2Proof.Machine
end

section
/-! PROOFS of the statement about `Compare` of 45_compare.md (R180): the difference modulo 256 is `r - m`, what `Compare`
writes, and the same three flags from `SubBinary(r, m, 1)`. -/

namespace Sys2Proof.Machine

open Sys2Proof

/-! ## The difference of two bytes -/

/-- The difference modulo 256, as R180 writes it with naturals. -/
theorem sub_toNat (r m : Byte) : (r - m).toNat = (256 + r.toNat - m.toNat) % 256 := by
  rw [BitVec.toNat_sub]
  omega

/-- The result byte is the difference, less the borrow, modulo 256 (42_arithmetic.md R144). -/
theorem subBinary_value_toNat (a m : Byte) (c : Bool) :
    (subBinary a m c).value.toNat = (255 + a.toNat - m.toNat + c.toNat) % 256 := by
  have value : (subBinary a m c).value = BitVec.ofInt 8 (a.toNat - m.toNat - (1 - c.toNat)) := rfl
  have carry_le_one := c.toNat_le
  rw [value, BitVec.toNat_ofInt]
  omega

/-- The carry says that `a` is not below `m` and the borrow (42_arithmetic.md R144). -/
theorem subBinary_carry_eq_decide (a m : Byte) (c : Bool) :
    (subBinary a m c).carry = decide (m.toNat + (1 - c.toNat) ≤ a.toNat) := by
  have carry : (subBinary a m c).carry = decide ((0 : Int) ≤ a.toNat - m.toNat - (1 - c.toNat)) := rfl
  have carry_le_one := c.toNat_le
  rw [carry, decide_eq_decide]
  omega

/-- With the carry set nothing is borrowed. -/
theorem subBinary_true_value (r m : Byte) : (subBinary r m true).value = r - m := by
  apply BitVec.eq_of_toNat_eq
  rw [subBinary_value_toNat, sub_toNat, Bool.toNat_true]
  omega

theorem subBinary_true_carry (r m : Byte) : (subBinary r m true).carry = decide (m.toNat ≤ r.toNat) :=
  subBinary_carry_eq_decide r m true

/-! ## What `Compare` writes -/

@[simp] theorem State.arch_compare (s : State) (r m : Byte) :
    (s.compare r m).arch =
      { s.arch with flagC := decide (m.toNat ≤ r.toNat), flagZ := r == m, flagN := (r - m).msb } := rfl

@[simp] theorem State.mem_compare (s : State) (r m : Byte) : (s.compare r m).mem = s.mem := rfl

/-- Z by the numbers of the two bytes (R180). -/
theorem beq_eq_decide_toNat (r m : Byte) : (r == m) = decide (r.toNat = m.toNat) := by
  rw [beq_eq_decide, decide_eq_decide, BitVec.toNat_inj]

/-- Equal bytes are those whose difference is zero. -/
theorem beq_eq_sub_beq_zero (r m : Byte) : (r == m) = (r - m == 0) := by
  rw [beq_eq_decide, beq_eq_decide, decide_eq_decide]
  exact sub_eq_zero.symm

/-- N by the half of the byte's range in which the difference lies (R180). -/
theorem msb_sub_eq_decide (r m : Byte) : (r - m).msb = decide (128 ≤ (256 + r.toNat - m.toNat) % 256) := by
  rw [BitVec.msb_eq_decide, sub_toNat]

/-! ## The obligation -/

/-- Settles O48: both the rule and `SubBinary` with the carry set read their flags off the byte `r - m` and off
`m ≤ r`. -/
theorem compareIsSubtractWithoutStoring : Obligations.CompareIsSubtractWithoutStoring := by
  intro s r m
  dsimp only
  rw [subBinary_true_value, subBinary_true_carry]
  refine ⟨?rule, rfl, beq_eq_sub_beq_zero r m, rfl, s.mem_compare r m⟩
  case rule => rw [State.arch_compare, beq_eq_decide_toNat, msb_sub_eq_decide]

end Sys2Proof.Machine
end

section
/-! PROOFS of the statement about the cycles a step takes (70_reset_and_hazards.md R284): what each shared operation
adds to the counter, whatever OPCODE holds; from it the bounds of one instruction and of the poll; then how a step
ends. -/

namespace Sys2Proof.Machine

open Sys2Proof

/-! ## Operations that take a fixed number of cycles -/

@[simp] theorem State.cycleCount_fetchByte (s : State) : s.fetchByte.cycleCount = s.cycleCount + 1 := rfl
@[simp] theorem State.cycleCount_fetchOpcode (s : State) : s.fetchOpcode.cycleCount = s.cycleCount + 1 := rfl

@[simp] theorem State.cycleCount_internals (n : Nat) (s : State) :
    (State.internals n s).cycleCount = s.cycleCount + n := by
  induction n generalizing s with
  | zero => rfl
  | succ n ih =>
    rw [State.internals, ih, State.internal_cycleCount]
    omega

@[simp] theorem State.cycleCount_brkSequence (s : State) (b : Bool) (vector : Addr) :
    (s.brkSequence b vector).cycleCount = s.cycleCount + 6 := by
  obtain ⟨cs, length_eq, ran⟩ := Ran.brkSequence s b vector
  rw [ran.count, length_eq]

/-- A service takes its leading internal cycles and the six of the BRK sequence (60_exceptions.md R250). -/
@[simp] theorem State.cycleCount_service (extra : Nat) (s : State) (vector : Addr) :
    (s.service extra vector).cycleCount = s.cycleCount + (6 + extra) := by
  simp [State.service, Nat.add_assoc, Nat.add_comm 6 extra]

/-! ## Operations that write registers only -/

@[simp] theorem State.cycleCount_setNZ (s : State) (v : Byte) : (s.setNZ v).cycleCount = s.cycleCount := rfl
@[simp] theorem State.cycleCount_shiftFlags (s : State) (r : Byte × Bool) :
    (s.shiftFlags r).cycleCount = s.cycleCount := rfl
@[simp] theorem State.cycleCount_compare (s : State) (r m : Byte) : (s.compare r m).cycleCount = s.cycleCount := rfl
@[simp] theorem State.cycleCount_bitTest (s : State) (m : Byte) : (s.bitTest m).cycleCount = s.cycleCount := rfl
@[simp] theorem State.cycleCount_writeAlu (s : State) (r : AluOut) : (s.writeAlu r).cycleCount = s.cycleCount := rfl

@[simp] theorem State.cycleCount_adc (s : State) (m : Byte) : (s.adc m).cycleCount = s.cycleCount := by
  unfold State.adc
  split <;> simp

@[simp] theorem State.cycleCount_sbc (s : State) (m : Byte) : (s.sbc m).cycleCount = s.cycleCount := by
  unfold State.sbc
  split <;> simp

/-! ## The resolver -/

/-- The cycles of `Index`: the dummy read, or none (40_step_and_addressing.md R108). -/
def indexCycles (opcode : Byte) (base : Addr) (idx : Byte) : Nat := (pageCross base idx || uncond opcode).toNat

theorem indexCycles_le_one (opcode : Byte) (base : Addr) (idx : Byte) : indexCycles opcode base idx ≤ 1 :=
  Bool.toNat_le _

theorem State.cycleCount_index (s : State) (base : Addr) (idx : Byte) :
    (s.index base idx).2.cycleCount = s.cycleCount + indexCycles s.opcode base idx := by
  unfold State.index indexCycles
  cases pageCross base idx || uncond s.opcode <;> rfl

/-- The cycles of `Resolve`, mode by mode (R97 to R106). -/
def State.resolveCycles (s : State) : AddrForm → Nat
  | .imm _ => 0
  | .zp _ => 1
  | .zpX _ | .zpY _ | .abs _ => 2
  | .absX a => 2 + indexCycles s.opcode a s.x
  | .absY a => 2 + indexCycles s.opcode a s.y
  | .indX _ | .ind _ => 4
  | .indY z => 3 + indexCycles s.opcode (s.zpPointer z) s.y

theorem State.cycleCount_resolve (s : State) (f : AddrForm) :
    (s.resolve f).2.cycleCount = s.cycleCount + s.resolveCycles f := by
  cases f <;>
    simp [State.resolve, State.resolveCycles, State.cycleCount_index, State.readZpPointer, State.fetchByte,
      Nat.add_assoc]

theorem State.resolveCycles_le_four (s : State) (f : AddrForm) : s.resolveCycles f ≤ 4 := by
  cases f with
  | absX a => exact Nat.add_le_add (by decide : 2 ≤ 3) (indexCycles_le_one s.opcode a s.x)
  | absY a => exact Nat.add_le_add (by decide : 2 ≤ 3) (indexCycles_le_one s.opcode a s.y)
  | indY z => exact Nat.add_le_add_left (indexCycles_le_one s.opcode _ s.y) 3
  | imm | zp | zpX | zpY | abs | indX | ind => simp [State.resolveCycles]

/-- Without a pointer in memory the resolver takes at most three cycles. -/
theorem State.resolveCycles_le_three (s : State) {f : AddrForm}
    (direct : f.mode ∉ [.indirectX, .indirectY, .indirect]) : s.resolveCycles f ≤ 3 := by
  cases f with
  | absX a => exact Nat.add_le_add_left (indexCycles_le_one s.opcode a s.x) 2
  | absY a => exact Nat.add_le_add_left (indexCycles_le_one s.opcode a s.y) 2
  | imm | zp | zpX | zpY | abs => simp [State.resolveCycles]
  | indX | indY | ind => exact absurd direct (by simp [AddrForm.mode])

/-! ## The bounds of an operation -/

/-- Between `lo` and `hi` cycles lead from `s` to `t`. -/
def TakesCycles (lo hi : Nat) (s t : State) : Prop :=
  s.cycleCount + lo ≤ t.cycleCount ∧ t.cycleCount ≤ s.cycleCount + hi

/-- One run of cycles after another. -/
theorem TakesCycles.trans {lo hi lo' hi' : Nat} {s t u : State} (first : TakesCycles lo hi s t)
    (second : TakesCycles lo' hi' t u) : TakesCycles (lo + lo') (hi + hi') s u := by
  unfold TakesCycles at *
  omega

/-- An exact count is a bound. -/
theorem TakesCycles.of_eq {lo hi n : Nat} {s t : State} (count : t.cycleCount = s.cycleCount + n) (lo_le : lo ≤ n)
    (le_hi : n ≤ hi) : TakesCycles lo hi s t := by
  unfold TakesCycles
  omega

/-! ## One instruction after its opcode fetch -/

section
variable (s : State)

theorem TakesCycles.readOperand (f : AddrForm) : TakesCycles 1 6 s (s.readOperand f) := by
  have resolve_le := s.resolveCycles_le_four f
  refine .of_eq (n := s.resolveCycles f + 1) ?_ (by omega) (by omega)
  rw [State.readOperand, State.memRead_cycleCount, State.cycleCount_resolve, Nat.add_assoc]

theorem TakesCycles.storeOperand (f : AddrForm) (v : Byte) : TakesCycles 1 6 s (s.storeOperand f v) := by
  have resolve_le := s.resolveCycles_le_four f
  refine .of_eq (n := s.resolveCycles f + 1) ?_ (by omega) (by omega)
  rw [State.storeOperand, State.memWrite_cycleCount, State.cycleCount_resolve, Nat.add_assoc]

/-- The three cycles of a read-modify-write follow a resolver without a pointer (44_shift_incdec.md R174). -/
theorem TakesCycles.modifyOperand {f : AddrForm} (direct : f.mode ∉ [.indirectX, .indirectY, .indirect]) (r : Byte) :
    TakesCycles 1 6 s (s.modifyOperand f r) := by
  have resolve_le := s.resolveCycles_le_three direct
  refine .of_eq (n := s.resolveCycles f + 3) ?_ (by omega) (by omega)
  simp only [State.modifyOperand, State.memWrite_cycleCount, State.memRead_cycleCount, State.cycleCount_resolve]
  omega

/-- One cycle for the displacement, one for a branch taken, one more to another page (46_branch_jump.md R190). -/
theorem TakesCycles.branch (taken : Bool) (d : Byte) : TakesCycles 1 6 s (s.branch taken d) := by
  cases taken
  case false => exact .of_eq (n := 1) rfl (by decide) (by decide)
  case true =>
    by_cases samePage : hi8 s.fetchByte.pc = hi8 (s.fetchByte.pc + sext16 d) <;>
      simp [TakesCycles, State.branch, samePage]

/-- An operation that runs `n` cycles, whatever the state, with `n` from 1 to 6. -/
theorem TakesCycles.fixed {t : State} (n : Nat) (count : t.cycleCount = s.cycleCount + n)
    (range : 1 ≤ n ∧ n ≤ 6 := by decide) : TakesCycles 1 6 s t :=
  .of_eq count range.1 range.2

/-- Every instruction, in every state, completes in 1 to 6 cycles after its opcode fetch (R284). -/
theorem exec_takesCycles (i : Instr) : ∃ t, exec i s = .next t ∧ TakesCycles 1 6 s t := by
  cases i
  -- read-type
  case ldaImm | ldaZp | ldaZpX | ldaAbs | ldaAbsX | ldaAbsY | ldaIndX | ldaIndY | ldxImm | ldxZp | ldxZpY | ldxAbs
      | ldxAbsY | ldyImm | ldyZp | ldyZpX | ldyAbs | ldyAbsX | adcImm | adcZp | adcZpX | adcAbs | adcAbsX | adcAbsY
      | adcIndX | adcIndY | sbcImm | sbcZp | sbcZpX | sbcAbs | sbcAbsX | sbcAbsY | sbcIndX | sbcIndY | andImm | andZp
      | andZpX | andAbs | andAbsX | andAbsY | andIndX | andIndY | oraImm | oraZp | oraZpX | oraAbs | oraAbsX | oraAbsY
      | oraIndX | oraIndY | eorImm | eorZp | eorZpX | eorAbs | eorAbsX | eorAbsY | eorIndX | eorIndY | bitZp | bitAbs
      | cmpImm | cmpZp | cmpZpX | cmpAbs | cmpAbsX | cmpAbsY | cmpIndX | cmpIndY | cpxImm | cpxZp | cpxAbs | cpyImm
      | cpyZp | cpyAbs =>
    refine ⟨_, rfl, ?_⟩
    simp only [TakesCycles, State.lda, State.ldx, State.ldy, State.adcOperand, State.sbcOperand, State.and, State.ora,
      State.eor, State.logicResult, State.bit, State.cmp, State.cpx, State.cpy, State.setA_cycleCount,
      State.setX_cycleCount, State.setY_cycleCount, State.cycleCount_setNZ, State.cycleCount_adc, State.cycleCount_sbc,
      State.cycleCount_bitTest, State.cycleCount_compare]
    exact TakesCycles.readOperand s _
  -- store-type
  case staZp | staZpX | staAbs | staAbsX | staAbsY | staIndX | staIndY | stxZp | stxZpY | stxAbs | styZp | styZpX
      | styAbs =>
    exact ⟨_, rfl, .storeOperand s _ _⟩
  -- read-modify-write
  case aslZp | aslZpX | aslAbs | aslAbsX | lsrZp | lsrZpX | lsrAbs | lsrAbsX | rolZp | rolZpX | rolAbs | rolAbsX
      | rorZp | rorZpX | rorAbs | rorAbsX | incZp | incZpX | incAbs | incAbsX | decZp | decZpX | decAbs | decAbsX =>
    refine ⟨_, rfl, ?_⟩
    simp only [TakesCycles, State.shiftMem, State.aslMem, State.lsrMem, State.rolMem, State.rorMem, State.inc,
      State.dec, State.cycleCount_setNZ, State.cycleCount_shiftFlags]
    exact TakesCycles.modifyOperand s (by simp [AddrForm.mode]) _
  case bcc | bcs | beq | bne | bmi | bpl | bvc | bvs => exact ⟨_, rfl, .branch s _ _⟩
  case jmpAbs => exact ⟨_, rfl, .fixed s 2 rfl⟩
  case jmpInd => exact ⟨_, rfl, .fixed s 4 rfl⟩
  case jsrAbs => exact ⟨_, rfl, .fixed s 5 rfl⟩
  case rts | rti => exact ⟨_, rfl, .fixed s 5 rfl⟩
  case brk => exact ⟨_, rfl, .fixed s 6 (s.cycleCount_brkSequence _ _)⟩
  case pha | php => exact ⟨_, rfl, .fixed s 2 rfl⟩
  case pla | plp => exact ⟨_, rfl, .fixed s 3 rfl⟩
  -- the dummy read alone
  all_goals exact ⟨_, rfl, .fixed s 1 rfl⟩

/-- An instruction that answers a next state has taken 1 to 6 cycles after its opcode fetch. -/
theorem TakesCycles.of_exec {i : Instr} {t : State} (next : exec i s = .next t) : TakesCycles 1 6 s t := by
  obtain ⟨u, next_u, takes⟩ := exec_takesCycles s i
  cases next.symm.trans next_u
  exact takes

/-- The poll adds nothing, or the cycles of one service (60_exceptions.md R249, R250). -/
theorem TakesCycles.pollAndService : TakesCycles 0 (6 + serviceExtraCycles) s s.pollAndService := by
  have idle : TakesCycles 0 (6 + serviceExtraCycles) s s := .of_eq (n := 0) rfl (by omega) (by omega)
  have serviced (vector : Addr) : TakesCycles 0 (6 + serviceExtraCycles) s (s.service serviceExtraCycles vector) :=
    .of_eq (s.cycleCount_service serviceExtraCycles vector) (by omega) (by omega)
  obtain ⟨-, nothing⟩ | ⟨-, -, nmi⟩ | ⟨-, -, -, irq⟩ | ⟨-, -, -, nothing⟩ := s.pollAndService_cases
  · rwa [nothing]
  · rw [nmi]
    exact serviced nmiVector
  · rw [irq]
    exact serviced irqVector
  · rwa [nothing]

end

/-! ## How a step ends -/

/-- A step that raises a fault found no instruction: the opcode was fetched, and the core halts (60_exceptions.md R241).
-/
theorem step_fault_eq {s : State} {r : Fault} (fault : step s = .fault r) :
    r = .unsupportedOpcode s.fetchOpcode.opcode (s.fetchOpcode.setHalted true) := by
  unfold step at fault
  split at fault
  case isTrue => cases fault
  case isFalse =>
    split at fault
    · cases fault; rfl
    next i _ =>
      obtain ⟨t, next, -⟩ := exec_takesCycles s.fetchOpcode i
      rw [next] at fault
      cases fault

/-! ## The obligation -/

/-- Settles O13: the opcode fetch is one cycle; the instruction then takes 1 to 6, the poll none or those of one
service; a fault leaves the fetch alone. -/
theorem stepCycleBounds : Obligations.StepCycleBounds := by
  have fetch (s : State) : TakesCycles 1 1 s s.fetchOpcode := .of_eq s.cycleCount_fetchOpcode le_rfl le_rfl
  refine ⟨fun s t h => ?completed, fun s t i h => ?instruction, fun s t op h => ?unsupported⟩
  case completed =>
    obtain ⟨-, i, u, -, instruction, rfl⟩ := step_next_cases h
    have bounds := ((fetch s).trans (.of_exec _ instruction)).trans (.pollAndService u)
    unfold TakesCycles at bounds
    omega
  case instruction =>
    obtain ⟨-, at_most⟩ := (fetch s).trans (.of_exec _ h)
    exact at_most
  case unsupported =>
    cases step_fault_eq h
    rfl

end Sys2Proof.Machine
end

section
/-! PROOFS of the statements about the encoding (30_encoding.md). An entry of the opcode map is looked at through what
it builds from an operand; the map and the encoder then agree byte by byte, the decoder splits off an entry's operand
bytes, and the round trips join the two. -/

namespace Sys2Proof

open Sys2Proof.Machine

/-! ## The entries of the opcode map -/

/-- What an entry builds from its operand: nothing, a byte, or a 16-bit number (R71). -/
def OpForm.instr (b : Byte) (a : Addr) : OpForm → Instr
  | .one i => i
  | .two f => f b
  | .three f => f a

/-- The bytes the operand of an entry stands in (R71, R72). -/
def OpForm.operandBytes (b : Byte) (a : Addr) : OpForm → List Byte
  | .one _ => []
  | .two _ => [b]
  | .three _ => addrBytes a

/-- The map and the encoder agree at every opcode byte (R73, R76). -/
theorem map_encode_opForm (op : Byte) (b : Byte) (a : Addr) :
    (opForm op).map (fun form => encode (form.instr b a)) =
      (opForm op).map fun form => op :: form.operandBytes b a := by
  obtain ⟨n⟩ := op
  fin_cases n <;> rfl

theorem encode_instr {op : Byte} {form : OpForm} (entry : opForm op = some form) (b : Byte) (a : Addr) :
    encode (form.instr b a) = op :: form.operandBytes b a := by
  simpa [entry] using map_encode_opForm op b a

/-- The map holds nothing at exactly the 105 bytes of R81. -/
theorem opForm_eq_none_iff (op : Byte) : opForm op = none ↔ op.toNat ∈ unsupportedBytes := by
  have table : (opForm op).isNone = decide (op.toNat ∈ unsupportedBytes) := by
    obtain ⟨n⟩ := op
    fin_cases n <;> rfl
  rw [← Option.isNone_iff_eq_none, table, decide_eq_true_iff]

/-- The entry at an instruction's opcode byte builds instructions of its mode, whatever the operand (R74). -/
theorem mode_opForm_opcode (i : Instr) :
    (opForm i.opcode).map (fun form => (form.instr 0 0).asm.operand.mode) = some i.asm.operand.mode := by
  cases i <;> rw [Instr.opcode, encode, List.headD_cons] <;> rfl

/-- The opcode byte alone decides the mode (R75). -/
theorem mode_eq_of_opcode_eq {i j : Instr} (same : i.opcode = j.opcode) :
    i.asm.operand.mode = j.asm.operand.mode := by
  apply Option.some.inj
  rw [← mode_opForm_opcode, ← mode_opForm_opcode, same]

/-- The encoded length is 1 + the operand bytes of the mode (R71). -/
theorem length_encode (i : Instr) : (encode i).length = 1 + i.asm.operand.mode.operandBytes := by
  cases i <;> rfl

/-! ## What the decoder does with an entry -/

/-- An entry of three bytes takes its operand from the next two, low byte first (R72). -/
theorem decode_three {op : Byte} {f : Addr → Instr} (entry : opForm op = some (.three f)) (a : Addr)
    (rest : List Byte) : decode (op :: addrBytes a ++ rest) = .ok (f a, rest) := by
  simp [decode, entry, addrBytes]

/-- An instruction is read from the entry at its first byte, with its operand from the bytes after it (R74, R75). -/
theorem decode_ok_cases {bytes rest : List Byte} {i : Instr} (h : decode bytes = .ok (i, rest)) :
    ∃ op form b a, opForm op = some form ∧ i = form.instr b a ∧ bytes = op :: form.operandBytes b a ++ rest := by
  cases bytes with
  | nil => cases h
  | cons op tail =>
    cases entry : opForm op with
    | none => simp [decode, entry] at h
    | some form =>
      simp only [decode, entry] at h
      cases form with
      | one j =>
        cases h
        exact ⟨op, .one i, 0, 0, entry, rfl, rfl⟩
      | two f =>
        cases tail with
        | nil => cases h
        | cons b tail =>
          cases h
          exact ⟨op, .two f, b, 0, entry, rfl, rfl⟩
      | three f =>
        match tail, h with
        | lo :: hi :: tail, rfl =>
          exact ⟨op, .three f, 0, joinBytes hi lo, entry, rfl, by simp [OpForm.operandBytes, addrBytes]⟩

/-- An opcode byte is rejected when the map holds nothing at it, and for no other reason (R80). -/
theorem decode_cons_unsupported_iff (op : Byte) (rest : List Byte) :
    decode (op :: rest) = .error (.unsupportedOpcode op) ↔ opForm op = none := by
  cases entry : opForm op with
  | none => simp [decode, entry]
  | some form =>
    cases form with
    | one i => simp [decode, entry]
    | two f => cases rest <;> simp [decode, entry]
    | three f => rcases rest with _ | ⟨lo, _ | ⟨hi, rest⟩⟩ <;> simp [decode, entry]

/-! ## The obligations -/

/-- Settles O1: a 16-bit operand is put together again from its two bytes; every other instruction is read back by
evaluation. -/
theorem decodeOfEncode : Obligations.DecodeOfEncode := by
  intro i rest
  cases i
  case ldaAbs | ldaAbsX | ldaAbsY | ldxAbs | ldxAbsY | ldyAbs | ldyAbsX | staAbs | staAbsX | staAbsY | stxAbs | styAbs
      | adcAbs | adcAbsX | adcAbsY | sbcAbs | sbcAbsX | sbcAbsY | andAbs | andAbsX | andAbsY | oraAbs | oraAbsX
      | oraAbsY | eorAbs | eorAbsX | eorAbsY | bitAbs | aslAbs | aslAbsX | lsrAbs | lsrAbsX | rolAbs | rolAbsX | rorAbs
      | rorAbsX | incAbs | incAbsX | decAbs | decAbsX | cmpAbs | cmpAbsX | cmpAbsY | cpxAbs | cpyAbs | jmpAbs | jmpInd
      | jsrAbs =>
    exact decode_three rfl _ rest
  all_goals rfl

/-- Settles O2: what was read was built by the entry at the first byte, and the encoder agrees with that entry. -/
theorem encodeOfDecode : Obligations.EncodeOfDecode := by
  intro bytes rest i h
  obtain ⟨op, form, b, a, entry, rfl, rfl⟩ := decode_ok_cases h
  rw [encode_instr entry]

/-- Settles O3: the decoder rejects where the map is empty, and the map is empty at the listed bytes. -/
theorem unsupportedBytesAreRejected : Obligations.UnsupportedBytesAreRejected := fun op rest =>
  (decode_cons_unsupported_iff op rest).trans (opForm_eq_none_iff op)

/-- Settles O5, by evaluating the decoder on the seven words. -/
theorem specWordsDecode : Obligations.SpecWordsDecode := by
  unfold Obligations.SpecWordsDecode
  decide

end Sys2Proof
end

section
/-! The meaning of an instruction by its mnemonic and operand, as it is written (30_encoding.md R76): `exec` gives that
meaning a state (`exec_eq`), so a statement about all instructions is one about 56 mnemonics in four kinds of operand.
An addressed instruction is then one of the access patterns of R109 and R174, but for JMP and JSR. -/

namespace Sys2Proof

open Sys2Proof.Machine

/-! ## Meanings by mnemonic -/

/-- A mnemonic on an operand with an effective address; the state as it was, where no such instruction exists. -/
def Mnemonic.onAddress (f : AddrForm) (s : State) : Mnemonic → State
  | .LDA => s.lda f
  | .LDX => s.ldx f
  | .LDY => s.ldy f
  | .STA => s.sta f
  | .STX => s.stx f
  | .STY => s.sty f
  | .ADC => s.adcOperand f
  | .SBC => s.sbcOperand f
  | .AND => s.and f
  | .ORA => s.ora f
  | .EOR => s.eor f
  | .BIT => s.bit f
  | .ASL => s.aslMem f
  | .LSR => s.lsrMem f
  | .ROL => s.rolMem f
  | .ROR => s.rorMem f
  | .INC => s.inc f
  | .DEC => s.dec f
  | .CMP => s.cmp f
  | .CPX => s.cpx f
  | .CPY => s.cpy f
  | .JMP => s.jmp f
  | .JSR => s.jsr (s.resolve f).1
  | _ => s

/-- A mnemonic on the accumulator. -/
def Mnemonic.onAccumulator (s : State) : Mnemonic → State
  | .ASL => s.aslAcc
  | .LSR => s.lsrAcc
  | .ROL => s.rolAcc
  | .ROR => s.rorAcc
  | _ => s

/-- A mnemonic without an operand. -/
def Mnemonic.alone (s : State) : Mnemonic → State
  | .TAX => s.tax
  | .TAY => s.tay
  | .TXA => s.txa
  | .TYA => s.tya
  | .TSX => s.tsx
  | .TXS => s.txs
  | .INX => s.inx
  | .INY => s.iny
  | .DEX => s.dex
  | .DEY => s.dey
  | .CLC => s.dummyNext.setC false
  | .SEC => s.dummyNext.setC true
  | .CLD => s.dummyNext.setD false
  | .SED => s.dummyNext.setD true
  | .CLI => s.dummyNext.setI false
  | .SEI => s.dummyNext.setI true
  | .CLV => s.dummyNext.setV false
  | .NOP => s.dummyNext
  | .PHA => s.pha
  | .PHP => s.php
  | .PLA => s.pla
  | .PLP => s.plp
  | .RTS => s.rts
  | .RTI => s.returnFromInterrupt
  | .BRK => s.brk
  | _ => s

/-- The state a written instruction leaves. -/
def Asm.meaning (w : Asm) (s : State) : State :=
  match w.operand with
  | .addr f => w.mnemonic.onAddress f s
  | .acc => w.mnemonic.onAccumulator s
  | .rel d => s.branch (branchTaken w.mnemonic s) d
  | .imp => w.mnemonic.alone s

/-- Every instruction completes, with the meaning of what is written. -/
theorem exec_eq (i : Instr) (s : State) : exec i s = .next (i.asm.meaning s) := by
  cases i <;> rfl

theorem exec_eq_of_asm {i : Instr} {w : Asm} (h : i.asm = w) (s : State) : exec i s = .next (w.meaning s) :=
  h ▸ exec_eq i s

/-- Every instruction is written in a mode its mnemonic has (R82). -/
theorem Instr.asm_wf (i : Instr) : i.asm.wf = true := by
  cases i <;> rfl

/-! ## Access patterns -/

/-- What a write of a register or a flag leaves alone: OPCODE, the pending latches, and everything the cycles move. -/
structure Rest where
  opcode : Byte
  irqPending : Bool
  nmiPending : Bool
  halted : Bool
  cycleCount : Nat
  interruptThisCycle : Bool
  interruptPrevCycle : Bool
  readyBus : Bool
  mem : Memory
  trace : List BusCycle

/-- The `Rest` view of a state. -/
def Machine.State.rest (s : State) : Rest where
  opcode := s.opcode
  irqPending := s.irqPending
  nmiPending := s.nmiPending
  halted := s.halted
  cycleCount := s.cycleCount
  interruptThisCycle := s.interruptThisCycle
  interruptPrevCycle := s.interruptPrevCycle
  readyBus := s.readyBus
  mem := s.mem
  trace := s.trace

@[simp] theorem Machine.State.rest_setA (s : State) (v : Byte) : (s.setA v).rest = s.rest := rfl
@[simp] theorem Machine.State.rest_setX (s : State) (v : Byte) : (s.setX v).rest = s.rest := rfl
@[simp] theorem Machine.State.rest_setY (s : State) (v : Byte) : (s.setY v).rest = s.rest := rfl
@[simp] theorem Machine.State.rest_setSp (s : State) (v : Byte) : (s.setSp v).rest = s.rest := rfl
@[simp] theorem Machine.State.rest_setPc (s : State) (v : Addr) : (s.setPc v).rest = s.rest := rfl
@[simp] theorem Machine.State.rest_setC (s : State) (b : Bool) : (s.setC b).rest = s.rest := rfl
@[simp] theorem Machine.State.rest_setZ (s : State) (b : Bool) : (s.setZ b).rest = s.rest := rfl
@[simp] theorem Machine.State.rest_setI (s : State) (b : Bool) : (s.setI b).rest = s.rest := rfl
@[simp] theorem Machine.State.rest_setD (s : State) (b : Bool) : (s.setD b).rest = s.rest := rfl
@[simp] theorem Machine.State.rest_setV (s : State) (b : Bool) : (s.setV b).rest = s.rest := rfl
@[simp] theorem Machine.State.rest_setN (s : State) (b : Bool) : (s.setN b).rest = s.rest := rfl
@[simp] theorem Machine.State.rest_setNZ (s : State) (v : Byte) : (s.setNZ v).rest = s.rest := by
  simp [State.setNZ]
@[simp] theorem Machine.State.rest_writeAlu (s : State) (r : AluOut) : (s.writeAlu r).rest = s.rest := by
  simp [State.writeAlu]
@[simp] theorem Machine.State.rest_shiftFlags (s : State) (r : Byte × Bool) : (s.shiftFlags r).rest = s.rest := by
  simp [State.shiftFlags]
@[simp] theorem Machine.State.rest_bitTest (s : State) (m : Byte) : (s.bitTest m).rest = s.rest := by
  simp [State.bitTest]
@[simp] theorem Machine.State.rest_unpack (s : State) (p : Byte) : (s.unpack p).rest = s.rest := by
  simp [State.unpack]
@[simp] theorem Machine.State.rest_compare (s : State) (r m : Byte) : (s.compare r m).rest = s.rest := by
  simp [State.compare]
@[simp] theorem Machine.State.rest_useFree (s : State) : s.useFree.rest = s.rest := rfl

@[simp] theorem Machine.State.rest_adc (s : State) (m : Byte) : (s.adc m).rest = s.rest := by
  unfold State.adc
  split <;> simp

@[simp] theorem Machine.State.rest_sbc (s : State) (m : Byte) : (s.sbc m).rest = s.rest := by
  unfold State.sbc
  split <;> simp

/-- The read-type mnemonics (R109). -/
def readMnemonics : List Mnemonic := [.LDA, .LDX, .LDY, .ADC, .SBC, .AND, .ORA, .EOR, .BIT, .CMP, .CPX, .CPY]

/-- The store-type mnemonics (R109). -/
def storeMnemonics : List Mnemonic := [.STA, .STX, .STY]

/-- The mnemonics with a read-modify-write form (44_shift_incdec.md R174). -/
def modifyMnemonics : List Mnemonic := [.ASL, .LSR, .ROL, .ROR, .INC, .DEC]

/-- The mnemonics whose one cycle after the opcode fetch is the dummy read (40_step_and_addressing.md R95). -/
def registerMnemonics : List Mnemonic :=
  [.TAX, .TAY, .TXA, .TYA, .TSX, .TXS, .INX, .INY, .DEX, .DEY, .CLC, .SEC, .CLD, .SED, .CLI, .SEI, .CLV, .NOP]

namespace Mnemonic

/-- A read-type instruction reads its operand and then writes registers (R109). -/
theorem rest_onAddress_of_read {m : Mnemonic} (hm : m ∈ readMnemonics) (f : AddrForm) (s : State) :
    (m.onAddress f s).rest = (s.readOperand f).rest := by
  cases m <;> simp [readMnemonics] at hm
  all_goals
    simp [onAddress, State.lda, State.ldx, State.ldy, State.adcOperand, State.sbcOperand, State.and, State.ora,
      State.eor, State.logicResult, State.bit, State.cmp, State.cpx, State.cpy]

/-- A store-type instruction writes one byte (R109). -/
theorem exists_onAddress_of_store {m : Mnemonic} (hm : m ∈ storeMnemonics) (f : AddrForm) (s : State) :
    ∃ v, m.onAddress f s = s.storeOperand f v := by
  cases m <;> simp [storeMnemonics] at hm
  all_goals exact ⟨_, rfl⟩

/-- A read-modify-write instruction replaces its operand and then writes registers (44_shift_incdec.md R174). -/
theorem exists_rest_onAddress_of_modify {m : Mnemonic} (hm : m ∈ modifyMnemonics) (f : AddrForm) (s : State) :
    ∃ r, (m.onAddress f s).rest = (s.modifyOperand f r).rest := by
  cases m <;> simp [modifyMnemonics] at hm
  case ASL | LSR | ROL | ROR => exact ⟨_, State.rest_shiftFlags _ _⟩
  case INC | DEC => exact ⟨_, State.rest_setNZ _ _⟩

/-- One dummy read, then writes of registers (R95). -/
theorem rest_alone_of_register {m : Mnemonic} (hm : m ∈ registerMnemonics) (s : State) :
    (m.alone s).rest = s.dummyNext.rest := by
  cases m <;> simp [registerMnemonics] at hm
  all_goals
    simp [alone, State.tax, State.tay, State.txa, State.tya, State.tsx, State.txs, State.inx, State.iny, State.dex,
      State.dey]

end Mnemonic

/-- A shift of the accumulator: one dummy read, then writes of registers (44_shift_incdec.md R161). -/
theorem Machine.State.rest_shiftAcc (s : State) (r : Byte × Bool) : (s.shiftAcc r).rest = s.dummyNext.rest := by
  simp [State.shiftAcc]

/-- How an instruction uses its addressed operand, registers apart. -/
inductive Access (f : AddrForm) (s : State) : Mnemonic → State → Prop where
  | read {m : Mnemonic} {t : State} (mem : m ∈ readMnemonics) (rest : t.rest = (s.readOperand f).rest) :
      Access f s m t
  | store {m : Mnemonic} (mem : m ∈ storeMnemonics) (v : Byte) : Access f s m (s.storeOperand f v)
  | modify {m : Mnemonic} {t : State} (mem : m ∈ modifyMnemonics) (r : Byte)
      (rest : t.rest = (s.modifyOperand f r).rest) : Access f s m t
  | jmp : Access f s .JMP (s.jmp f)
  | jsr : Access f s .JSR (s.jsr (s.resolve f).1)
  | absent {m : Mnemonic} (absent : f.mode ∉ m.modes) : Access f s m s

theorem Mnemonic.onAddress_access (m : Mnemonic) (f : AddrForm) (s : State) : Access f s m (m.onAddress f s) := by
  by_cases read : m ∈ readMnemonics
  · exact .read read (rest_onAddress_of_read read f s)
  by_cases store : m ∈ storeMnemonics
  · obtain ⟨v, stores⟩ := exists_onAddress_of_store store f s
    exact stores ▸ .store store v
  by_cases modify : m ∈ modifyMnemonics
  · obtain ⟨r, rest⟩ := exists_rest_onAddress_of_modify modify f s
    exact .modify modify r rest
  cases m
  case JMP => exact .jmp
  case JSR => exact .jsr
  case LDA | LDX | LDY | ADC | SBC | AND | ORA | EOR | BIT | CMP | CPX | CPY => exact absurd (by decide) read
  case STA | STX | STY => exact absurd (by decide) store
  case ASL | LSR | ROL | ROR | INC | DEC => exact absurd (by decide) modify
  all_goals exact .absent (by cases f <;> simp [AddrForm.mode, Mnemonic.modes])

end Sys2Proof
end

section
/-! What every operation after the opcode fetch keeps: it is a list of cycles and writes of registers (`Runs`), so it
writes no control state, and the poll latches show sources that are still pending (60_exceptions.md R249). -/

namespace Sys2Proof.Machine

open Sys2Proof

/-! ## Runs -/

/-- A source of an interrupt is pending. -/
def State.HasSource (s : State) : Prop := s.nmiPending = true ∨ s.irqPending = true

/-- `interrupt_this_cycle` is not true without a source. -/
def State.ThisSourced (s : State) : Prop := s.interruptThisCycle = true → s.HasSource

/-- `interrupt_prev_cycle` is not true without a source. -/
def State.PrevSourced (s : State) : Prop := s.interruptPrevCycle = true → s.HasSource

/-- From `s` cycles and writes of registers lead to `t`. Control state is as it was, the latch of this cycle keeps
having a source, and from the first cycle on so does the latch of the one before. -/
structure Runs (s t : State) : Prop where
  cycles : ∃ cs, Ran cs s t
  opcode : t.opcode = s.opcode
  irqPending : t.irqPending = s.irqPending
  nmiPending : t.nmiPending = s.nmiPending
  halted : t.halted = s.halted
  thisSourced : s.ThisSourced → t.ThisSourced
  prevSourced : s.ThisSourced → s.PrevSourced ∨ s.cycleCount < t.cycleCount → t.PrevSourced

/-- The latch as the end of a cycle computes it has a source (20_memory.md R49). -/
theorem State.hasSource_of_latch {s : State} (latch : (s.nmiPending || (s.irqPending && !s.flagI)) = true) :
    s.HasSource := by
  rw [Bool.or_eq_true, Bool.and_eq_true] at latch
  exact latch.imp_right And.left

namespace Runs

variable {s t u : State}

theorem le_cycleCount (h : Runs s t) : s.cycleCount ≤ t.cycleCount := by
  obtain ⟨cs, ran⟩ := h.cycles
  have count := ran.count
  omega

theorem trans (h : Runs s t) (g : Runs t u) : Runs s u where
  cycles :=
    have ⟨_, first⟩ := h.cycles
    have ⟨_, second⟩ := g.cycles
    ⟨_, first.trans second⟩
  opcode := g.opcode.trans h.opcode
  irqPending := g.irqPending.trans h.irqPending
  nmiPending := g.nmiPending.trans h.nmiPending
  halted := g.halted.trans h.halted
  thisSourced := fun this => g.thisSourced (h.thisSourced this)
  prevSourced := by
    intro this prev
    have le_t := h.le_cycleCount
    have le_u := g.le_cycleCount
    apply g.prevSourced (h.thisSourced this)
    by_cases first : s.PrevSourced ∨ s.cycleCount < t.cycleCount
    · exact .inl (h.prevSourced this first)
    · right
      rcases prev with prev | lt
      · exact absurd (.inl prev) first
      · have not_lt := fun lt => first (.inr lt)
        omega

/-- Writes of registers are no cycle and touch no latch. -/
theorem of_rest (rest : t.rest = s.rest) : Runs s t := by
  simp only [State.rest, Rest.mk.injEq] at rest
  obtain ⟨opcode, irq, nmi, halted, count, this, prev, ready, mem, trace⟩ := rest
  exact {
    cycles := ⟨[], (Ran.none s).congr rfl rfl rfl rfl trace count mem ready⟩
    opcode := opcode
    irqPending := irq
    nmiPending := nmi
    halted := halted
    thisSourced := by simp [State.ThisSourced, State.HasSource, this, nmi, irq]
    prevSourced := by simp [State.PrevSourced, State.HasSource, prev, nmi, irq, count] }

theorem refl (s : State) : Runs s s := of_rest rfl

/-- After the end of a cycle the latch of the cycle before is the old latch of this one, and the new one is computed
from the sources (20_memory.md R49). -/
theorem of_endCycle {c : BusCycle} (ran : Ran [c] s (t.endCycle c)) (arch : t.arch = s.arch)
    (this : t.interruptThisCycle = s.interruptThisCycle) : Runs s (t.endCycle c) := by
  have nmi : t.nmiPending = s.nmiPending := congrArg Arch.nmiPending arch
  have irq : t.irqPending = s.irqPending := congrArg Arch.irqPending arch
  exact {
    cycles := ⟨_, ran⟩
    opcode := congrArg Arch.opcode arch
    irqPending := irq
    nmiPending := nmi
    halted := congrArg Arch.halted arch
    thisSourced := fun _ latch => State.hasSource_of_latch (s := t) latch
    prevSourced := by
      intro sourced _ latch
      simpa [State.HasSource, nmi, irq] using sourced (this ▸ latch) }

end Runs

/-! ## Operations -/

section
variable (s : State)

theorem Runs.memRead (a : Addr) : Runs s (s.memRead a) := .of_endCycle (.memRead s a) rfl rfl

theorem Runs.memWrite (a : Addr) (v : Byte) : Runs s (s.memWrite a v) := .of_endCycle (.memWrite s a v) rfl rfl

theorem Runs.internal : Runs s s.internal := .of_endCycle (.internal s) rfl rfl

theorem Runs.dummyNext : Runs s s.dummyNext := .memRead s _

theorem Runs.fetchByte : Runs s s.fetchByte := (Runs.memRead s s.pc).trans (.of_rest rfl)

theorem Runs.push (v : Byte) : Runs s (s.push v) := (Runs.memWrite s _ v).trans (.of_rest rfl)

theorem Runs.pull : Runs s s.pull :=
  (Runs.of_rest (State.rest_setSp s _)).trans (.memRead _ _)

theorem Runs.index (base : Addr) (idx : Byte) : Runs s (s.index base idx).2 := by
  unfold State.index
  split
  · exact .memRead s _
  · exact .refl s

theorem Runs.resolve (f : AddrForm) : Runs s (s.resolve f).2 := by
  have fetch2 := (Runs.fetchByte s).trans (.fetchByte s.fetchByte)
  cases f with
  | imm => exact .of_rest rfl
  | zp => exact .fetchByte s
  | zpX | zpY => exact (Runs.fetchByte s).trans (.memRead _ _)
  | abs => exact fetch2
  | absX | absY => exact fetch2.trans (.index _ _ _)
  | indX => exact (((Runs.fetchByte s).trans (.memRead _ _)).trans (.memRead _ _)).trans (.memRead _ _)
  | indY => exact (((Runs.fetchByte s).trans (.memRead _ _)).trans (.memRead _ _)).trans (.index _ _ _)
  | ind => exact (fetch2.trans (.memRead _ _)).trans (.memRead _ _)

theorem Runs.readOperand (f : AddrForm) : Runs s (s.readOperand f) := (Runs.resolve s f).trans (.memRead _ _)

theorem Runs.storeOperand (f : AddrForm) (v : Byte) : Runs s (s.storeOperand f v) :=
  (Runs.resolve s f).trans (.memWrite _ _ _)

theorem Runs.modifyOperand (f : AddrForm) (r : Byte) : Runs s (s.modifyOperand f r) :=
  (((Runs.resolve s f).trans (.memRead _ _)).trans (.memWrite _ _ _)).trans (.memWrite _ _ _)

theorem Runs.branch (taken : Bool) (d : Byte) : Runs s (s.branch taken d) := by
  unfold State.branch
  cases taken
  case false => exact .fetchByte s
  case true =>
    refine ((Runs.fetchByte s).trans ?_).trans (.of_rest (State.rest_setPc _ _))
    split
    · exact .internal _
    · exact (Runs.internal _).trans (.internal _)

theorem Runs.jsr (a : Addr) : Runs s (s.jsr a) :=
  (((((Runs.fetchByte s).trans (.fetchByte _)).trans (.internal _)).trans (.push _ _)).trans (.push _ _)).trans
    (.of_rest (State.rest_setPc _ _))

theorem Runs.rts : Runs s s.rts :=
  (((((Runs.internal s).trans (.internal _)).trans (.pull _)).trans (.pull _)).trans (.internal _)).trans
    (.of_rest (State.rest_setPc _ _))

theorem Runs.returnFromInterrupt : Runs s s.returnFromInterrupt :=
  ((((((Runs.internal s).trans (.internal _)).trans (.pull _)).trans (.of_rest (State.rest_unpack _ _))).trans
    (.pull _)).trans (.pull _)).trans (.of_rest (State.rest_setPc _ _))

theorem Runs.loadVector (vector : Addr) : Runs s (s.loadVector vector) :=
  ((Runs.memRead s _).trans (.memRead _ _)).trans (.of_rest (State.rest_setPc _ _))

theorem Runs.brkSequence (b : Bool) (vector : Addr) : Runs s (s.brkSequence b vector) :=
  ((((((Runs.internal s).trans (.of_rest (State.rest_setPc _ _))).trans (.push _ _)).trans (.push _ _)).trans
    (.push _ _)).trans (.of_rest (State.rest_setI _ _))).trans (.loadVector _ _)

theorem Runs.pla : Runs s s.pla :=
  (((Runs.dummyNext s).trans (.internal _)).trans (.pull _)).trans
    ((Runs.of_rest (State.rest_setA _ _)).trans (.of_rest (State.rest_setNZ _ _)))

theorem Runs.plp : Runs s s.plp :=
  (((Runs.dummyNext s).trans (.internal _)).trans (.pull _)).trans (.of_rest (State.rest_unpack _ _))

end

/-! ## Instructions -/

theorem Runs.of_access {f : AddrForm} {s t : State} {m : Mnemonic} (access : Access f s m t) : Runs s t := by
  cases access with
  | read _ rest => exact (Runs.readOperand s f).trans (.of_rest rest)
  | store _ v => exact .storeOperand s f v
  | modify _ r rest => exact (Runs.modifyOperand s f r).trans (.of_rest rest)
  | jmp => exact (Runs.resolve s f).trans (.of_rest (State.rest_setPc _ _))
  | jsr => exact .jsr s _
  | absent => exact .refl s

theorem Runs.onAccumulator (m : Mnemonic) (s : State) : Runs s (m.onAccumulator s) := by
  have shift (r : Byte × Bool) : Runs s (s.shiftAcc r) := (Runs.dummyNext s).trans (.of_rest (s.rest_shiftAcc r))
  cases m
  case ASL | LSR | ROL | ROR => exact shift _
  all_goals exact .refl s

theorem Runs.alone (m : Mnemonic) (s : State) : Runs s (m.alone s) := by
  cases m
  case TAX | TAY | TXA | TYA | TSX | TXS | INX | INY | DEX | DEY | CLC | SEC | CLD | SED | CLI | SEI | CLV | NOP =>
    exact (Runs.dummyNext s).trans (.of_rest (Mnemonic.rest_alone_of_register (by decide) s))
  case PHA | PHP => exact (Runs.dummyNext s).trans (.push _ _)
  case PLA => exact .pla s
  case PLP => exact .plp s
  case RTS => exact .rts s
  case RTI => exact .returnFromInterrupt s
  case BRK => exact .brkSequence s _ _
  all_goals exact .refl s

theorem Runs.meaning (w : Asm) (s : State) : Runs s (w.meaning s) := by
  obtain ⟨m, operand⟩ := w
  cases operand with
  | addr f => exact .of_access (m.onAddress_access f s)
  | acc => exact .onAccumulator m s
  | rel d => exact .branch s _ d
  | imp => exact .alone m s

/-- What an instruction leaves is reached by cycles and writes of registers. -/
theorem Runs.of_exec {i : Instr} {s t : State} (next : exec i s = .next t) : Runs s t := by
  rw [exec_eq] at next
  cases next
  exact .meaning i.asm s

/-! ## The obligations -/

/-- Settles O15: every instruction has a meaning, and what it runs writes no control state. -/
theorem noInstructionWritesControlState : Obligations.NoInstructionWritesControlState := fun i s =>
  have runs := Runs.meaning i.asm s
  ⟨_, exec_eq i s, runs.opcode, runs.irqPending, runs.nmiPending, runs.halted⟩

/-- Settles O57: the opcode fetch computes the latch from the sources, the instruction's own cycles move it on. -/
theorem pollLatchHasASource : Obligations.PollLatchHasASource := by
  intro i s t next
  have fetched : s.fetchOpcode.ThisSourced := State.hasSource_of_latch (s := s)
  obtain ⟨at_least_one, -⟩ := TakesCycles.of_exec _ next
  exact (Runs.of_exec next).prevSourced fetched (.inr (by omega))

end Sys2Proof.Machine
end

section
/-! PROOFS of the statements about the step (40_step_and_addressing.md R90 to R93; 60_exceptions.md R240 to R244) and
about what every step keeps (20_memory.md R60): a running core either faults on an unsupported opcode or runs the
decoded instruction and polls. -/

namespace Sys2Proof.Machine

open Sys2Proof

/-! ## How a step ends -/

/-- Three bytes are enough to decode any instruction: only the opcode byte can fail (30_encoding.md R80, R82). -/
theorem decodeInstr_eq_none_iff (op b₁ b₂ : Byte) :
    decodeInstr [op, b₁, b₂] = none ↔ op.toNat ∈ unsupportedBytes := by
  rw [← opForm_eq_none_iff]
  cases entry : opForm op with
  | none => simp [decodeInstr, decode, entry]
  | some form => cases form <;> simp [decodeInstr, decode, entry]

/-- After the opcode fetch the decoder sees the three bytes from the instruction's address on (R90, R91). -/
theorem State.instrBytes_fetchOpcode (s : State) :
    s.fetchOpcode.instrBytes = [s.peek s.pc, s.peek (s.pc + 1), s.peek (s.pc + 2)] := by
  have third : s.pc + 2 = s.pc + 1 + 1 := by bv_omega
  rw [third]
  rfl

theorem step_of_halted {s : State} (halted : s.halted = true) : step s = .refused .halted := by
  rw [step, if_pos halted]

theorem step_of_decode {s : State} {i : Instr} (running : s.halted = false)
    (decoded : decodeInstr [s.peek s.pc, s.peek (s.pc + 1), s.peek (s.pc + 2)] = some i) :
    step s = .next (i.asm.meaning s.fetchOpcode).pollAndService := by
  rw [← s.instrBytes_fetchOpcode] at decoded
  simp [step, running, decoded, exec_eq]

theorem step_of_unsupported {s : State} (running : s.halted = false)
    (unsupported : (s.peek s.pc).toNat ∈ unsupportedBytes) :
    step s = .fault (.unsupportedOpcode (s.peek s.pc) (s.fetchOpcode.setHalted true)) := by
  have rejected := (decodeInstr_eq_none_iff _ (s.peek (s.pc + 1)) (s.peek (s.pc + 2))).mpr unsupported
  rw [← s.instrBytes_fetchOpcode] at rejected
  simp [step, running, rejected]
  rfl

/-! ## The poll -/

/-- A service: SP down by three, I set, PC loaded from the vector as the pushes left it, and no other register
(60_exceptions.md R250). -/
theorem State.arch_service (extra : Nat) (s : State) (vector : Addr) :
    (s.service extra vector).arch =
      { s.arch with
        sp := s.sp - 3, flagI := true
        pc := joinBytes ((s.service extra vector).peek (vector + 1)) ((s.service extra vector).peek vector) } := by
  have arch_eq := s.arch_internals extra
  have sp_eq : (State.internals extra s).sp = s.sp := congrArg Arch.sp arch_eq
  simp [State.service, State.arch_brkSequence, arch_eq, sp_eq]

theorem Ran.pollAndService (s : State) : ∃ cs, Ran cs s s.pollAndService := by
  obtain ⟨-, h⟩ | ⟨-, -, h⟩ | ⟨-, -, -, h⟩ | ⟨-, -, -, h⟩ := s.pollAndService_cases
  · exact ⟨[], by rw [h]; exact .none s⟩
  · obtain ⟨cs, -, ran⟩ := Ran.service s nmiVector
    exact ⟨cs, h ▸ ran.congr rfl rfl rfl rfl rfl rfl rfl rfl⟩
  · obtain ⟨cs, -, ran⟩ := Ran.service s irqVector
    exact ⟨cs, h ▸ ran⟩
  · exact ⟨[], by rw [h]; exact .none s⟩

theorem State.halted_pollAndService (s : State) : s.pollAndService.halted = s.halted := by
  have serviced (vector : Addr) : (s.service serviceExtraCycles vector).halted = s.halted := by
    simpa only [State.arch] using congrArg Arch.halted (s.arch_service serviceExtraCycles vector)
  obtain ⟨-, h⟩ | ⟨-, -, h⟩ | ⟨-, -, -, h⟩ | ⟨-, -, -, h⟩ := s.pollAndService_cases <;> rw [h]
  · exact serviced nmiVector
  · exact serviced irqVector

/-- With neither source pending the poll does nothing, whatever the latch holds (60_exceptions.md R257). -/
theorem State.pollAndService_of_nothing_pending {s : State} (nmi : s.nmiPending = false) (irq : s.irqPending = false) :
    s.pollAndService = s := by
  simp [State.pollAndService, nmi, irq]

/-! ## What the cycles of a step keep -/

/-- A completed step is the opcode fetch, the instruction and the poll, each a list of cycles. -/
theorem Ran.step {s t : State} (next : step s = .next t) : ∃ cs, Ran cs s t := by
  obtain ⟨-, i, u, -, instruction, rfl⟩ := step_next_cases next
  obtain ⟨_, ran⟩ := (Runs.of_exec instruction).cycles
  obtain ⟨_, polled⟩ := Ran.pollAndService u
  exact ⟨_, ((Ran.fetchOpcode s).trans ran).trans polled⟩

/-- Cycles keep memory in its canonical form: a write cycle is a store (20_memory.md R44). -/
theorem replay_wf {m m' : Memory} {cs : List BusCycle} (wf : m.wf = true) (h : replay m cs = some m') :
    m'.wf = true := by
  induction cs generalizing m' with
  | nil =>
    cases h
    exact wf
  | cons c cs ih =>
    cases c with
    | internal => exact ih h
    | read a v =>
      obtain ⟨m₁, before, same⟩ := Option.bind_eq_some_iff.mp h
      split at same
      · cases same
        exact ih before
      · cases same
    | write a v =>
      obtain ⟨m₁, before, rfl⟩ := Option.map_eq_some_iff.mp h
      exact Memory.wf_set a v (ih before)

theorem halted_of_step_next {s t : State} (next : step s = .next t) : t.halted = false := by
  obtain ⟨running, i, u, -, instruction, rfl⟩ := step_next_cases next
  rw [u.halted_pollAndService, (Runs.of_exec instruction).halted]
  exact running

/-! ## The obligations -/

/-- Settles O12: the fetch, the instruction and the poll each are their cycles. -/
theorem everyStepIsItsBusTrace : Obligations.EveryStepIsItsBusTrace := fun _ _ => Ran.step

/-- Settles O10: the step is a list of cycles, and cycles keep canonical memory and lengthen trace and counter alike. -/
theorem everyStepKeepsInvariant : Obligations.EveryStepKeepsInvariant := by
  intro s t inv next
  obtain ⟨cs, ran⟩ := Ran.step next
  refine ⟨replay_wf inv.memory ran.memory, ?count, halted_of_step_next next⟩
  case count => rw [ran.count, ran.trace, List.length_append, inv.count, Nat.add_comm]

/-- Settles O11, by evaluating the reset state. -/
theorem invariantHoldsAtReset : Obligations.InvariantHoldsAtReset := ⟨State.reset_mem_wf, rfl, rfl⟩

/-- Settles O4: the length is that of the encoding, the mode stands in the map at the opcode byte, and on a rejected
byte the step is the opcode fetch alone. -/
theorem lengthComesFromOpcodeByte : Obligations.LengthComesFromOpcodeByte := by
  have opcode_of_decode {op : Byte} {xs r : List Byte} {i : Instr} (h : decode (op :: xs) = .ok (i, r)) :
      i.opcode = op := by
    obtain ⟨op', form, b, a, entry, rfl, bytes⟩ := decode_ok_cases h
    rw [Instr.opcode, encode_instr entry]
    exact (List.cons.inj bytes).1.symm
  refine ⟨fun bytes rest i h => ?length, fun op xs ys r r' i j hi hj => ?mode, fun s running unsupported => ?fault⟩
  case length =>
    rw [← encodeOfDecode bytes rest i h, List.length_append, length_encode, Nat.add_comm]
  case mode => exact mode_eq_of_opcode_eq ((opcode_of_decode hi).trans (opcode_of_decode hj).symm)
  case fault => exact ⟨_, step_of_unsupported running unsupported, rfl⟩

/-- Settles O6: the decoder reads at PC what the step runs. -/
theorem stepRunsDecodedInstruction : Obligations.StepRunsDecodedInstruction := by
  intro s i rest running decoded
  refine ⟨_, exec_eq i s.fetchOpcode, step_of_decode running ?_, s.arch_fetchOpcode, rfl, fun b _ => rfl⟩
  rw [decodeInstr, decoded]

/-- Settles O7: the opcode fetch, then the halt. -/
theorem unsupportedOpcodeSurfaces : Obligations.UnsupportedOpcodeSurfaces := fun _ running unsupported =>
  ⟨_, step_of_unsupported running unsupported, rfl⟩

/-- Settles O8: the step looks at `halted` first, and `reset()` clears it. -/
theorem haltedCoreRefusesUntilReset : Obligations.HaltedCoreRefusesUntilReset :=
  ⟨fun _ halted => step_of_halted halted, fun _ => rfl⟩

/-- Settles O9: a running core decodes every byte but the listed ones, and every instruction completes. -/
theorem stepCompletesExactlyOnSupportedOpcode : Obligations.StepCompletesExactlyOnSupportedOpcode := by
  intro s
  constructor
  · rintro ⟨t, next⟩
    obtain ⟨running, i, -, decoded, -, -⟩ := step_next_cases next
    refine ⟨running, fun unsupported => ?_⟩
    rw [step_of_unsupported running unsupported] at next
    cases next
  · rintro ⟨running, supported⟩
    have rejected_iff := decodeInstr_eq_none_iff (s.peek s.pc) (s.peek (s.pc + 1)) (s.peek (s.pc + 2))
    obtain ⟨i, decoded⟩ := Option.ne_none_iff_exists'.mp (mt rejected_iff.mp supported)
    exact ⟨_, step_of_decode running decoded⟩

/-- Settles O59: no instruction raises a source, so the poll after it finds none. -/
theorem staleLatchServicesNothing : Obligations.StaleLatchServicesNothing := by
  intro s t nmi irq next
  obtain ⟨-, i, u, decoded, instruction, rfl⟩ := step_next_cases next
  have runs := Runs.of_exec instruction
  rw [State.pollAndService_of_nothing_pending (runs.nmiPending.trans nmi) (runs.irqPending.trans irq)]
  exact ⟨i, s.instrBytes_fetchOpcode ▸ decoded, instruction⟩

/-- Settles O60: two bus reads toggle `ready_bus` back, and the second leaves the bus cells. -/
theorem resetProcedure : Obligations.ResetProcedure := by
  intro s
  simp [State.hostReset, State.busRead, State.setPc, resetVector, State.peek]

end Sys2Proof.Machine
end

section
/-! PROOFS of the statements about addressing (40_step_and_addressing.md R97 to R108) and about the bus trace of a
read-modify-write (44_shift_incdec.md R174): the model's addresses in numbers first, then the modes. -/

namespace Sys2Proof.Machine

open Sys2Proof

/-! ## Addresses in numbers -/

theorem zext16_eq_ofNat (b : Byte) : zext16 b = BitVec.ofNat 16 b.toNat := by
  apply BitVec.eq_of_toNat_eq
  rw [zext16_toNat, BitVec.toNat_ofNat]
  omega

/-- A pointer in page zero is little-endian and its second byte wraps modulo 256 (R104, R105). -/
theorem State.zpPointer_toNat (s : State) (z : Byte) :
    (s.zpPointer z).toNat =
      (s.peek (BitVec.ofNat 16 z.toNat)).toNat + 256 * (s.peek (BitVec.ofNat 16 ((z.toNat + 1) % 256))).toNat := by
  have next : (z + 1).toNat = (z.toNat + 1) % 256 := BitVec.toNat_add z 1
  rw [State.zpPointer, joinBytes_toNat, zext16_eq_ofNat, zext16_eq_ofNat, next, Nat.add_comm]

/-- An indexed address wraps modulo 65536 (R102, R103). -/
theorem add_zext16_toNat (base : Addr) (idx : Byte) : (base + zext16 idx).toNat = (base.toNat + idx.toNat) % 65536 := by
  rw [BitVec.toNat_add, zext16_toNat]

/-- The high byte of the JMP indirect target is read in the pointer's own page (R106). -/
theorem indirectHighAddr_eq_ofNat (p : Addr) :
    indirectHighAddr p = BitVec.ofNat 16 (p.toNat / 256 * 256 + (p.toNat + 1) % 256) := by
  apply BitVec.eq_of_toNat_eq
  have next : (lo8 p + 1).toNat = ((lo8 p).toNat + 1) % 256 := BitVec.toNat_add (lo8 p) 1
  have p_lt := p.isLt
  rw [indirectHighAddr, joinBytes_toNat, next, hi8_toNat, lo8_toNat, BitVec.toNat_ofNat]
  omega

/-- The dummy read has the low byte indexed and the high byte not (R108). -/
theorem indexDummyAddr_eq_ofNat (base : Addr) (idx : Byte) :
    indexDummyAddr base idx = BitVec.ofNat 16 (base.toNat / 256 * 256 + (base.toNat + idx.toNat) % 256) := by
  apply BitVec.eq_of_toNat_eq
  have base_lt := base.isLt
  rw [indexDummyAddr, joinBytes_toNat, hi8_toNat, lo8_toNat, add_zext16_toNat, BitVec.toNat_ofNat]
  omega

theorem pageCross_iff (base : Addr) (idx : Byte) :
    pageCross base idx = true ↔ 255 < base.toNat % 256 + idx.toNat := by
  rw [pageCross, decide_eq_true_iff, lo8_toNat]

/-- The nine opcode bytes of 30_encoding.md R79, as numbers. -/
theorem uncond_iff (op : Byte) :
    uncond op = true ↔ op.toNat ∈ [0x1E, 0x3E, 0x5E, 0x7E, 0xDE, 0xFE, 0x9D, 0x99, 0x91] := by
  simp [uncond, ← BitVec.toNat_inj, or_assoc]

/-! ## The cycles of the modes -/

/-- The dummy read of an indexed mode, and when there is one (R108); the reads before it, from `s` to `t`, left OPCODE
and memory alone. -/
theorem State.trace_index {s t : State} {seen : List BusCycle} (opcode : t.opcode = s.opcode) (mem : t.mem = s.mem)
    (trace : t.trace = seen) (base : Addr) (idx : Byte) :
    (t.index base idx).2.trace =
      if 255 < base.toNat % 256 + idx.toNat ∨
          s.opcode.toNat ∈ [0x1E, 0x3E, 0x5E, 0x7E, 0xDE, 0xFE, 0x9D, 0x99, 0x91] then
        .read (BitVec.ofNat 16 (base.toNat / 256 * 256 + (base.toNat + idx.toNat) % 256))
          (s.peek (BitVec.ofNat 16 (base.toNat / 256 * 256 + (base.toNat + idx.toNat) % 256))) :: seen
      else seen := by
  simp only [← pageCross_iff, ← uncond_iff, ← Bool.or_eq_true, ← indexDummyAddr_eq_ofNat, ← opcode,
    ← State.peek_congr mem, ← trace]
  unfold State.index
  split <;> rfl

/-- Outside Immediate mode the operand is the byte at the effective address (R109). -/
theorem State.operand_eq_peek (s : State) {f : AddrForm} (inMemory : ∀ v, f ≠ .imm v) :
    s.operand f = s.peek (s.resolve f).1 := by
  cases f with
  | imm v => exact absurd rfl (inMemory v)
  | _ => rfl

/-- A read-modify-write has no Immediate mode (30_encoding.md R76). -/
theorem operand_of_modify {i : Instr} {m : Mnemonic} {f : AddrForm} (h : i.asm = ⟨m, .addr f⟩)
    (hm : m ∈ modifyMnemonics) (s : State) : s.operand f = s.peek (s.resolve f).1 := by
  refine s.operand_eq_peek fun v immediate => ?_
  have wf := i.asm_wf
  rw [h, immediate] at wf
  cases m <;> simp [modifyMnemonics] at hm <;> cases wf

/-- Read, write back, write: the cycles after the resolver's (44_shift_incdec.md R174). -/
theorem State.trace_modifyOperand (s : State) (f : AddrForm) (r : Byte) :
    (s.modifyOperand f r).trace =
      .write (s.resolve f).1 r :: .write (s.resolve f).1 (s.operand f) ::
        .read (s.resolve f).1 (s.peek (s.resolve f).1) :: (s.resolve f).2.trace := by
  simp [State.modifyOperand]

/-! ## The obligations -/

/-- Settles O18: every mode's address by the numbers above. -/
theorem effectiveAddressOfEveryMode : Obligations.EffectiveAddressOfEveryMode := by
  intro s
  refine ⟨fun v => rfl, fun z => zext16_toNat z, fun z => ?zpX, fun z => ?zpY, fun a => rfl,
    fun a => add_zext16_toNat a s.x, fun a => add_zext16_toNat a s.y, fun z => ?indX, fun z => ?indY, fun p => ?ind,
    fun v => rfl, fun f => s.operand_eq_peek⟩
  case zpX => exact (zext16_toNat _).trans (BitVec.toNat_add z s.x)
  case zpY => exact (zext16_toNat _).trans (BitVec.toNat_add z s.y)
  case indX =>
    have sum : (z + s.x).toNat = (z.toNat + s.x.toNat) % 256 := BitVec.toNat_add z s.x
    rw [State.resolve, State.zpPointer_toNat, sum, Nat.mod_add_mod]
  case indY => rw [State.resolve, State.index, add_zext16_toNat, State.zpPointer_toNat]
  case ind =>
    rw [State.resolve, joinBytes_toNat, indirectHighAddr_eq_ofNat, Nat.add_comm]
    simp

/-- Settles O19: the operand and pointer reads, then what `Index` adds. -/
theorem indexedDummyRead : Obligations.IndexedDummyRead := by
  intro s a z
  refine ⟨State.trace_index (t := s.fetchByte.fetchByte) ?_ ?_ ?_ a s.x,
    State.trace_index (t := s.fetchByte.fetchByte) ?_ ?_ ?_ a s.y,
    State.trace_index (t := s.fetchByte.readZpPointer z) ?_ ?_ ?_ (s.zpPointer z) s.y⟩
  all_goals simp [State.fetchByte, State.readZpPointer]

/-- Settles O20: the byte written last is the one memory then holds. -/
theorem readModifyWriteBusPattern : Obligations.ReadModifyWriteBusPattern := by
  intro i m f s h hm ea
  obtain ⟨r, rest⟩ := Mnemonic.exists_rest_onAddress_of_modify hm f s
  have written : (m.onAddress f s).peek ea = r := by
    rw [State.peek_congr (congrArg Rest.mem rest), State.peek_modifyOperand, if_pos rfl]
  have trace := (congrArg Rest.trace rest).trans (s.trace_modifyOperand f r)
  rw [operand_of_modify h hm] at trace
  refine ⟨m.onAddress f s, exec_eq_of_asm h s, ?_⟩
  rw [written]
  exact trace

end Sys2Proof.Machine
end

section
/-! PROOFS of the statements that say what one instruction gives in every mode (41_transfers.md, 43_logic_bit.md,
44_shift_incdec.md, 45_compare.md) and of the flag instructions (47_system_flags_stack.md). The frame of memory comes
from the access pattern, once for each; what is left of each instruction is its equation of registers. -/

namespace Sys2Proof.Machine

open Sys2Proof

/-! ## Flags and counts in numbers -/

/-- Z and N as `SetNZ` writes them are Z and N in numbers (10_state.md R16). -/
theorem Arch.nz_eq (r : Arch) (v : Byte) : r.nz v = { r with flagZ := v == 0, flagN := v.msb } := by
  rw [Arch.nz, beq_eq_decide_toNat, BitVec.msb_eq_decide]
  rfl

/-- Bit 6 of a byte by the halves of the range below bit 7, as BIT copies it to V (43_logic_bit.md R153). -/
theorem getLsbD_six_eq_decide (v : Byte) : v.getLsbD 6 = decide (64 ≤ v.toNat % 128) := by
  rw [getLsbD_eq_decide, decide_eq_decide]
  omega

theorem add_one_eq_ofNat (v : Byte) : v + 1 = BitVec.ofNat 8 (v.toNat + 1) := by
  bv_omega

theorem sub_one_eq_ofNat (v : Byte) : v - 1 = BitVec.ofNat 8 (v.toNat + 255) := by
  bv_omega

/-! ## The frame of an access pattern -/

@[simp] theorem State.a_readOperand (s : State) (f : AddrForm) : (s.readOperand f).a = s.a :=
  congrArg Arch.a (s.arch_readOperand f)

theorem SameMemoryBut.of_mem {s t : State} (mem : t.mem = s.mem) : SameMemoryBut [] s t :=
  fun b _ => State.peek_congr mem b

theorem SameMemoryBut.of_peek {s t : State} {ea : Addr} {v : Byte}
    (peek : ∀ b, t.peek b = if b = ea then v else s.peek b) : SameMemoryBut [ea] s t := by
  intro b other
  rw [peek, if_neg (by simpa using other)]

/-- A read-type instruction completes and leaves memory alone. -/
theorem exec_read {i : Instr} {m : Mnemonic} {f : AddrForm} (h : i.asm = ⟨m, .addr f⟩) (s : State) {r : Arch}
    (arch : (m.onAddress f s).arch = r) (hm : m ∈ readMnemonics := by decide) :
    ∃ t, exec i s = .next t ∧ t.arch = r ∧ SameMemoryBut [] s t := by
  refine ⟨m.onAddress f s, exec_eq_of_asm h s, arch, .of_mem ?_⟩
  exact (congrArg Rest.mem (Mnemonic.rest_onAddress_of_read hm f s)).trans (s.mem_readOperand f)

/-- A store-type instruction completes; it writes the byte at the effective address and no register but PC. -/
theorem exec_store {i : Instr} {m : Mnemonic} {f : AddrForm} {v : Byte} (h : i.asm = ⟨m, .addr f⟩) (s : State)
    (stores : m.onAddress f s = s.storeOperand f v) :
    ∃ t, exec i s = .next t ∧ t.arch = { s.arch with pc := nextPc s f } ∧ t.peek (s.resolve f).1 = v ∧
      SameMemoryBut [(s.resolve f).1] s t := by
  refine ⟨s.storeOperand f v, stores ▸ exec_eq_of_asm h s, s.arch_storeOperand f v, ?_,
    .of_peek (s.peek_storeOperand f v)⟩
  rw [State.peek_storeOperand, if_pos rfl]

/-- A read-modify-write completes with the modified byte at the effective address. -/
theorem exec_modify {i : Instr} {m : Mnemonic} {f : AddrForm} {v : Byte} {r : Arch} (h : i.asm = ⟨m, .addr f⟩)
    (s : State) (mem : (m.onAddress f s).mem = (s.modifyOperand f v).mem) (arch : (m.onAddress f s).arch = r) :
    ∃ t, exec i s = .next t ∧ SameMemoryBut [(s.resolve f).1] s t ∧ t.peek (s.resolve f).1 = v ∧ t.arch = r := by
  have peek (b : Addr) : (m.onAddress f s).peek b = if b = (s.resolve f).1 then v else s.peek b :=
    (State.peek_congr mem b).trans (s.peek_modifyOperand f v b)
  exact ⟨m.onAddress f s, exec_eq_of_asm h s, .of_peek peek, by rw [peek, if_pos rfl], arch⟩

/-- An instruction of one dummy read completes and leaves memory alone. -/
theorem exec_register {i : Instr} {m : Mnemonic} (h : i.asm = ⟨m, .imp⟩) (s : State) {r : Arch}
    (arch : (m.alone s).arch = r) (hm : m ∈ registerMnemonics := by decide) :
    ∃ t, exec i s = .next t ∧ t.arch = r ∧ SameMemoryBut [] s t := by
  refine ⟨m.alone s, exec_eq_of_asm h s, arch, .of_mem ?_⟩
  exact congrArg Rest.mem (Mnemonic.rest_alone_of_register hm s)

/-- An accumulator shift completes and leaves memory alone. -/
theorem exec_shiftAcc {i : Instr} {s : State} {p : Byte × Bool} {v : Byte} {out : Bool}
    (next : exec i s = .next (s.shiftAcc p)) (value : p = (v, out)) :
    ∃ t, exec i s = .next t ∧ SameMemoryBut [] s t ∧ t.arch = { s.arch with a := v, flagC := out }.nz v := by
  refine ⟨s.shiftAcc p, next, .of_mem (congrArg Rest.mem (s.rest_shiftAcc p)), ?_⟩
  simp [value, State.shiftAcc, State.shiftFlags, Arch.nz_eq]

/-- INC and DEC complete with the count at the effective address. -/
theorem exec_countMem {i : Instr} {m : Mnemonic} {f : AddrForm} {v : Byte} (h : i.asm = ⟨m, .addr f⟩) (s : State)
    (counts : m.onAddress f s = (s.modifyOperand f v).setNZ v) :
    ∃ t, exec i s = .next t ∧ SameMemoryBut [(s.resolve f).1] s t ∧ t.peek (s.resolve f).1 = v ∧
      t.arch = { s.arch with pc := nextPc s f }.nz v := by
  refine exec_modify h s ?_ ?_
  · rw [counts]
    exact congrArg Rest.mem (State.rest_setNZ _ v)
  · simp [counts, Arch.nz_eq, nextPc]

/-- A shift in memory completes with its byte at the effective address. -/
theorem exec_shiftMem {i : Instr} {m : Mnemonic} {f : AddrForm} {p : Byte × Bool} (h : i.asm = ⟨m, .addr f⟩) (s : State)
    (shifts : m.onAddress f s = s.shiftMem f p) :
    ∃ t, exec i s = .next t ∧ SameMemoryBut [(s.resolve f).1] s t ∧ t.peek (s.resolve f).1 = p.1 ∧
      t.arch = { s.arch with pc := nextPc s f, flagC := p.2 }.nz p.1 := by
  refine exec_modify h s ?_ ?_
  · rw [shifts]
    exact congrArg Rest.mem (State.rest_shiftFlags _ p)
  · simp [shifts, State.shiftMem, State.shiftFlags, Arch.nz_eq, nextPc]

/-! ## The obligations -/

/-- Settles O21: read-type, the register and SetNZ. -/
theorem loadsLoad : Obligations.LoadsLoad := by
  intro i f s
  refine ⟨fun h => exec_read h s ?_, fun h => exec_read h s ?_, fun h => exec_read h s ?_⟩
  all_goals simp [Mnemonic.onAddress, State.lda, State.ldx, State.ldy, Arch.nz_eq, nextPc]

/-- Settles O22: store-type. -/
theorem storesStore : Obligations.StoresStore := fun _ _ s =>
  ⟨fun h => exec_store h s rfl, fun h => exec_store h s rfl, fun h => exec_store h s rfl⟩

/-- Settles O23: one dummy read, then the registers. -/
theorem transfersTransfer : Obligations.TransfersTransfer := by
  intro s
  refine ⟨exec_register rfl s ?_, exec_register rfl s ?_, exec_register rfl s ?_, exec_register rfl s ?_,
    exec_register rfl s ?_, exec_register rfl s ?_⟩
  all_goals
    simp [Mnemonic.alone, State.tax, State.tay, State.txa, State.tya, State.tsx, State.txs, Arch.nz_eq]

/-- Settles O27: read-type, then the accumulator and SetNZ. -/
theorem logicOperations : Obligations.LogicOperations := by
  intro i f s
  refine ⟨fun h => exec_read h s ?_, fun h => exec_read h s ?_, fun h => exec_read h s ?_⟩
  all_goals
    simp [Mnemonic.onAddress, State.and, State.ora, State.eor, State.logicResult, Arch.nz_eq, nextPc]

/-- Settles O28: bits 7 and 6 of M by the halves of the byte's range. -/
theorem bitTestsMemory : Obligations.BitTestsMemory := by
  intro i f s h m
  obtain ⟨t, next, arch, same⟩ := exec_read h s rfl
  refine ⟨t, next, same, arch.trans ?_⟩
  rw [← getLsbD_seven_eq_decide, ← getLsbD_six_eq_decide, ← beq_eq_decide]
  simp [Mnemonic.onAddress, State.bit, State.bitTest, nextPc, m]

/-- Settles O29: the four shift functions in numbers, after one dummy read. -/
theorem accumulatorShifts : Obligations.AccumulatorShifts := fun s =>
  ⟨exec_shiftAcc rfl (asl_eq_ofNat s.a), exec_shiftAcc rfl (lsr_eq_ofNat s.a),
    exec_shiftAcc rfl (rol_eq_ofNat s.a s.flagC), exec_shiftAcc rfl (ror_eq_ofNat s.a s.flagC)⟩

/-- Settles O30: the same four functions on the byte at the effective address. -/
theorem memoryShifts : Obligations.MemoryShifts := by
  intro i f s ea n c gives
  have shifts {m : Mnemonic} {shift : Byte → Byte × Bool} {r : Nat} {out : Bool} (hm : m ∈ modifyMnemonics)
      (meaning : m.onAddress f s = s.shiftMem f (shift (s.operand f)))
      (value : shift (s.peek ea) = (BitVec.ofNat 8 r, out)) (h : i.asm = ⟨m, .addr f⟩) : gives r out := by
    have shifted := exec_shiftMem h s meaning
    rwa [operand_of_modify h hm, value] at shifted
  exact ⟨shifts (by decide) rfl (asl_eq_ofNat _), shifts (by decide) rfl (lsr_eq_ofNat _),
    shifts (shift := (rol · s.flagC)) (by decide) rfl (rol_eq_ofNat _ _),
    shifts (shift := (ror · s.flagC)) (by decide) rfl (ror_eq_ofNat _ _)⟩

/-- Settles O31: the byte at the effective address counts modulo 256. -/
theorem memoryCounts : Obligations.MemoryCounts := by
  intro i f s
  refine ⟨fun h => ?inc, fun h => ?dec⟩
  case inc =>
    have counted := exec_countMem h s rfl
    rwa [operand_of_modify h (by decide), add_one_eq_ofNat] at counted
  case dec =>
    have counted := exec_countMem h s rfl
    rwa [operand_of_modify h (by decide), sub_one_eq_ofNat] at counted

/-- Settles O32: the register counts modulo 256. -/
theorem registerCounts : Obligations.RegisterCounts := by
  intro s
  dsimp only
  rw [← add_one_eq_ofNat, ← add_one_eq_ofNat, ← sub_one_eq_ofNat, ← sub_one_eq_ofNat]
  refine ⟨exec_register rfl s ?_, exec_register rfl s ?_, exec_register rfl s ?_, exec_register rfl s ?_⟩
  all_goals simp [Mnemonic.alone, State.inx, State.iny, State.dex, State.dey, Arch.nz_eq]

/-- Settles O33: `Compare` of the register with the operand. -/
theorem comparesCompare : Obligations.ComparesCompare := by
  intro i f s m gives
  have compares {c : Mnemonic} {r : Byte} (h : i.asm = ⟨c, .addr f⟩) (hc : c ∈ readMnemonics)
      (meaning : c.onAddress f s = (s.readOperand f).compare r m) : gives r := by
    obtain ⟨t, next, arch, same⟩ := exec_read h s rfl hc
    refine ⟨t, next, same, arch.trans ?_⟩
    rw [meaning, State.arch_compare, msb_sub_eq_decide, State.arch_readOperand, beq_eq_decide]
    rfl
  exact ⟨fun h => compares h (by decide) rfl, fun h => compares h (by decide) rfl, fun h => compares h (by decide) rfl⟩

/-- Settles O40: one dummy read, then the flag. -/
theorem flagInstructionsAndNop : Obligations.FlagInstructionsAndNop := fun s =>
  ⟨exec_register rfl s rfl, exec_register rfl s rfl, exec_register rfl s rfl, exec_register rfl s rfl,
    exec_register rfl s rfl, exec_register rfl s rfl, exec_register rfl s rfl, exec_register rfl s rfl⟩

end Sys2Proof.Machine
end

section
/-! PROOFS of the statements of 42_arithmetic.md about SubBinary, the decimal unit, and ADC and SBC in every mode. The
arithmetic unit is written in integers first; ADC and SBC then only write what it gives. -/

namespace Sys2Proof.Machine

open Sys2Proof

theorem AluOut.eq_of_fields {p q : AluOut} (value : p.value = q.value) (carry : p.carry = q.carry)
    (overflow : p.overflow = q.overflow) : p = q := by
  cases p
  cases q
  exact AluOut.mk.injEq .. ▸ ⟨value, carry, overflow⟩

/-! ## Binary subtraction -/

theorem xor_ff_toNat (m : Byte) : (m ^^^ 0xFF).toNat = 255 - m.toNat := by
  have complement : m ^^^ 0xFF = ~~~m := BitVec.xor_allOnes
  rw [complement, BitVec.toNat_not]

/-- Subtraction is addition of the complement, in result, carry and V (R144). -/
theorem subBinary_eq_addBinary (a m : Byte) (c : Bool) : subBinary a m c = addBinary a (m ^^^ 0xFF) c := by
  have carry_le_one := c.toNat_le
  have complement := xor_ff_toNat m
  have value : (subBinary a m c).value = (addBinary a (m ^^^ 0xFF) c).value := by
    apply BitVec.eq_of_toNat_eq
    rw [subBinary_value_toNat, addBinary_value_toNat, complement]
    omega
  have carry : (subBinary a m c).carry = (addBinary a (m ^^^ 0xFF) c).carry := by
    have sum : (addBinary a (m ^^^ 0xFF) c).carry = decide (255 < a.toNat + (m ^^^ 0xFF).toNat + c.toNat) := rfl
    rw [subBinary_carry_eq_decide, sum, complement, decide_eq_decide]
    omega
  have overflow : (subBinary a m c).overflow = (addBinary a (m ^^^ 0xFF) c).overflow := by
    have formula : (subBinary a m c).overflow = ((a ^^^ m).msb && (a ^^^ (subBinary a m c).value).msb) := rfl
    have flipped : (a ^^^ (m ^^^ 0xFF)).msb = !(a ^^^ m).msb := by
      rw [← BitVec.xor_assoc]
      exact BitVec.msb_xor.trans (Bool.xor_true _)
    rw [formula, addBinary_overflow_eq_msb, flipped, Bool.not_not, value, Bool.and_comm]
  exact AluOut.eq_of_fields value carry overflow

/-- V is signed overflow of the difference (R144). -/
theorem subBinary_overflow_iff_signed (a m : Byte) (c : Bool) :
    (subBinary a m c).overflow = true ↔
      a.toInt - m.toInt - (1 - c.toNat) < -128 ∨ 127 < a.toInt - m.toInt - (1 - c.toNat) := by
  have complement : (m ^^^ 0xFF).toInt = -1 - m.toInt := by
    rw [BitVec.toInt_eq_toNat_cond, BitVec.toInt_eq_toNat_cond, xor_ff_toNat]
    omega
  rw [subBinary_eq_addBinary, addBinary_overflow_iff_signed, complement]
  omega

/-! ## The arithmetic unit in integers -/

/-- AddBinary: the sum narrowed, the carry, the signed overflow (R141). -/
theorem addBinary_eq_ofInt (a m : Byte) (c : Bool) :
    addBinary a m c =
      { value := BitVec.ofInt 8 (a.toNat + m.toNat + c.toNat)
        carry := decide (255 < (a.toNat + m.toNat + c.toNat : Int))
        overflow := decide (a.toInt + m.toInt + c.toNat < -128 ∨ 127 < a.toInt + m.toInt + c.toNat) } := by
  refine AluOut.eq_of_fields ?value ?carry ?overflow
  case value => exact (BitVec.ofInt_natCast 8 (a.toNat + m.toNat + c.toNat)).symm
  case carry =>
    have sum : (addBinary a m c).carry = decide (255 < a.toNat + m.toNat + c.toNat) := rfl
    rw [sum, decide_eq_decide]
    omega
  case overflow => rw [Bool.eq_iff_iff, addBinary_overflow_iff_signed, decide_eq_true_iff]

/-- SubBinary: the difference narrowed, no borrow, the signed overflow (R144). -/
theorem subBinary_eq_ofInt (a m : Byte) (c : Bool) :
    subBinary a m c =
      { value := BitVec.ofInt 8 (a.toNat - m.toNat - (1 - c.toNat))
        carry := decide ((0 : Int) ≤ a.toNat - m.toNat - (1 - c.toNat))
        overflow := decide (a.toInt - m.toInt - (1 - c.toNat) < -128 ∨ 127 < a.toInt - m.toInt - (1 - c.toNat)) } := by
  refine AluOut.eq_of_fields rfl rfl ?overflow
  case overflow => rw [Bool.eq_iff_iff, subBinary_overflow_iff_signed, decide_eq_true_iff]

/-- Valid BCD has a decimal value of two digits (R142). -/
theorem decValue_le {b : Byte} (valid : validBcd b = true) : decValue b ≤ 99 := by
  simp only [validBcd, Bool.and_eq_true, decide_eq_true_eq] at valid
  unfold decValue
  omega

/-- AddDecimal of valid BCD: the sum modulo 100, and whether it left two digits (R142). -/
theorem addDecimal_of_valid (k : Nat) {a m : Byte} (c : Bool) (ha : validBcd a = true) (hm : validBcd m = true) :
    addDecimal k a m c =
      { value := bcdByte ((decValue a + decValue m + c.toNat : Int) % 100).toNat
        carry := decide (99 < (decValue a + decValue m + c.toNat : Int))
        overflow := Config.decimalV .add k a m c } := by
  rw [addDecimal, if_pos (by rw [ha, hm]; rfl)]
  refine AluOut.eq_of_fields ?value ?carry rfl
  case value => rfl
  case carry => exact decide_eq_decide.mpr (by simp only [bit]; omega)

/-- SubDecimal of valid BCD: the difference modulo 100, and whether nothing was borrowed (R145). -/
theorem subDecimal_of_valid (k : Nat) {a m : Byte} (c : Bool) (ha : validBcd a = true) (hm : validBcd m = true) :
    subDecimal k a m c =
      { value := bcdByte ((decValue a - decValue m - (1 - c.toNat) : Int) % 100).toNat
        carry := decide ((0 : Int) ≤ decValue a - decValue m - (1 - c.toNat))
        overflow := Config.decimalV .sub k a m c } := by
  have a_le := decValue_le ha
  have m_le := decValue_le hm
  have carry_le_one := c.toNat_le
  rw [subDecimal, if_pos (by rw [ha, hm]; rfl)]
  have wrapped : ∀ t : Int, -100 ≤ t → t ≤ 99 → (if t < 0 then t + 100 else t) = t % 100 := by
    intro t _ _
    split <;> omega
  refine AluOut.eq_of_fields (congrArg (fun t => bcdByte (Int.toNat t)) (wrapped _ ?_ ?_)) rfl rfl
  all_goals
    simp only [bit]
    omega

theorem bcdByte_toNat {t : Nat} (two_digits : t < 100) : (bcdByte t).toNat = 16 * (t / 10) + t % 10 := by
  rw [bcdByte, BitVec.toNat_ofNat]
  omega

/-- The two digits of a sum of digits: the low one carries into the high one, and that one into the hundreds (R142). -/
theorem digits_of_sum {high low : Nat} (high_le : high ≤ 18) (low_le : low ≤ 19) :
    (10 * high + low) % 100 / 10 = (high + if 9 < low then 1 else 0) % 10 ∧
      (10 * high + low) % 100 % 10 = (if 9 < low then low - 10 else low) ∧
      (99 < 10 * high + low ↔ 9 < high + if 9 < low then 1 else 0) := by
  split <;> omega

/-! ## ADC and SBC -/

/-- What the arithmetic unit's result makes of the registers (R140, R143). -/
def Arch.alu (r : Arch) (out : AluOut) : Arch :=
  { r with a := out.value, flagC := out.carry, flagV := out.overflow }.nz out.value

@[simp] theorem State.arch_writeAlu (s : State) (out : AluOut) : (s.writeAlu out).arch = s.arch.alu out := by
  simp [State.writeAlu, Arch.alu, Arch.nz_eq]

@[simp] theorem State.flagC_readOperand (s : State) (f : AddrForm) : (s.readOperand f).flagC = s.flagC :=
  congrArg Arch.flagC (s.arch_readOperand f)

@[simp] theorem State.freeIndex_readOperand (s : State) (f : AddrForm) : (s.readOperand f).freeIndex = s.freeIndex :=
  congrArg Arch.freeIndex (s.arch_readOperand f)

section
variable {s : State} (f : AddrForm)

theorem State.arch_adcOperand_of_binary (binary : s.flagD = false) :
    (s.adcOperand f).arch = { s.arch with pc := nextPc s f }.alu (addBinary s.a (s.operand f) s.flagC) := by
  simp [State.adcOperand, State.adc, State.flagD_readOperand, binary, nextPc]

theorem State.arch_sbcOperand_of_binary (binary : s.flagD = false) :
    (s.sbcOperand f).arch = { s.arch with pc := nextPc s f }.alu (subBinary s.a (s.operand f) s.flagC) := by
  simp [State.sbcOperand, State.sbc, State.flagD_readOperand, binary, nextPc]

theorem State.arch_adcOperand_of_decimal (decimal : s.flagD = true) :
    (s.adcOperand f).arch =
      { s.arch with pc := nextPc s f, freeIndex := s.freeIndex + 1 }.alu
        (addDecimal s.freeIndex s.a (s.operand f) s.flagC) := by
  simp [State.adcOperand, State.adc, State.flagD_readOperand, decimal, nextPc]

theorem State.arch_sbcOperand_of_decimal (decimal : s.flagD = true) :
    (s.sbcOperand f).arch =
      { s.arch with pc := nextPc s f, freeIndex := s.freeIndex + 1 }.alu
        (subDecimal s.freeIndex s.a (s.operand f) s.flagC) := by
  simp [State.sbcOperand, State.sbc, State.flagD_readOperand, decimal, nextPc]

end

/-! ## The obligations -/

/-- Settles O44: the complement of m is 255 - m, so sum and difference are 256 apart. -/
theorem subBinaryIsAddOfComplement : Obligations.SubBinaryIsAddOfComplement := by
  intro a m c
  refine ⟨subBinary_eq_addBinary a m c, ?noBorrow, subBinary_overflow_iff_signed a m c⟩
  case noBorrow => rw [subBinary_carry_eq_decide, decide_eq_true_iff]

/-- Settles O24: the unit in integers, whatever the mode. -/
theorem binaryAddAndSubtract : Obligations.BinaryAddAndSubtract := by
  intro i f s binary
  refine ⟨fun h => ?adc, fun h => ?sbc⟩
  case adc =>
    obtain ⟨t, next, arch, same⟩ := exec_read h s (State.arch_adcOperand_of_binary f binary)
    exact ⟨t, next, same, by rw [arch, addBinary_eq_ofInt]; rfl⟩
  case sbc =>
    obtain ⟨t, next, arch, same⟩ := exec_read h s (State.arch_sbcOperand_of_binary f binary)
    exact ⟨t, next, same, by rw [arch, subBinary_eq_ofInt]; rfl⟩

/-- Settles O25: the decimal unit on valid BCD; V is whatever the free value is. -/
theorem decimalAddAndSubtract : Obligations.DecimalAddAndSubtract := by
  intro i f s decimal ha hm
  refine ⟨fun h => ?adc, fun h => ?sbc⟩
  case adc =>
    obtain ⟨t, next, arch, same⟩ := exec_read h s (State.arch_adcOperand_of_decimal f decimal)
    exact ⟨t, _, next, same, by rw [arch, addDecimal_of_valid _ _ ha hm]; rfl⟩
  case sbc =>
    obtain ⟨t, next, arch, same⟩ := exec_read h s (State.arch_sbcOperand_of_decimal f decimal)
    exact ⟨t, _, next, same, by rw [arch, subDecimal_of_valid _ _ ha hm]; rfl⟩

/-- Settles O26: the free values are the result, the carry and V. -/
theorem invalidBcdStillCompletes : Obligations.InvalidBcdStillCompletes := by
  rintro i f s decimal - (h | h)
  · obtain ⟨t, next, arch, same⟩ := exec_read h s (State.arch_adcOperand_of_decimal f decimal)
    exact ⟨t, _, _, _, next, same, arch⟩
  · obtain ⟨t, next, arch, same⟩ := exec_read h s (State.arch_sbcOperand_of_decimal f decimal)
    exact ⟨t, _, _, _, next, same, arch⟩

/-- Settles O45: the carry out of the low nibble is the ten that the low digits make. -/
theorem decimalAddByNibbles : Obligations.DecimalAddByNibbles := by
  intro k a m c ha hm lo hi lo' hi'
  have carry_le_one := c.toNat_le
  have valid := And.intro ha hm
  simp only [validBcd, Bool.and_eq_true, decide_eq_true_eq] at valid
  obtain ⟨tens, units, carry⟩ := digits_of_sum (high := a.toNat / 16 + m.toNat / 16) (low := lo) (by omega) (by omega)
  have sum : decValue a + decValue m + bit c = 10 * (a.toNat / 16 + m.toNat / 16) + lo := by
    simp only [decValue, bit, lo]
    omega
  have high_digit : hi' = hi % 10 := by
    simp only [hi', hi]
    split <;> split <;> omega
  rw [addDecimal, if_pos (by rw [ha, hm]; rfl)]
  refine ⟨?_, decide_eq_decide.mpr (by rw [sum]; exact carry)⟩
  rw [bcdByte_toNat (Nat.mod_lt _ (by decide)), sum, tens, units, high_digit]

/-- Settles O46: the carry of the addition is 256 taken from the result, and 1 kept from the borrow. -/
theorem subtractUndoesAddUnlessCarry : Obligations.SubtractUndoesAddUnlessCarry := by
  intro a m r q
  have value : r.value.toNat = (a.toNat + m.toNat + 1) % 256 := addBinary_value_toNat a m true
  have carry : r.carry = decide (255 < a.toNat + m.toNat + 1) := rfl
  have undone : q.value.toNat = (255 + r.value.toNat - m.toNat + r.carry.toNat) % 256 := subBinary_value_toNat _ m _
  have noBorrow : q.carry = decide (m.toNat + (1 - r.carry.toNat) ≤ r.value.toNat) := subBinary_carry_eq_decide _ m _
  constructor
  · intro clear
    rw [clear, eq_comm, decide_eq_false_iff_not] at carry
    rw [clear, Bool.toNat_false] at undone noBorrow
    refine ⟨BitVec.eq_of_toNat_eq (by omega), ?_⟩
    rw [noBorrow, decide_eq_true_iff]
    omega
  · intro set
    have next : (a + 1).toNat = (a.toNat + 1) % 256 := BitVec.toNat_add a 1
    rw [set, Bool.toNat_true] at undone
    apply BitVec.eq_of_toNat_eq
    rw [undone, value, next]
    omega

end Sys2Proof.Machine
end

section
/-! PROOFS of the statements about branches, jumps and calls (46_branch_jump.md) and about BRK, RTI and the stack
instructions (47_system_flags_stack.md): for each operation its equation of registers and what memory then holds. -/

namespace Sys2Proof.Machine

open Sys2Proof

/-! ## Stack addresses -/

theorem stackAddr_inj {sp sp' : Byte} : stackAddr sp = stackAddr sp' ↔ sp = sp' :=
  ⟨fun h => by rw [← lo8_joinBytes 0x01 sp, ← lo8_joinBytes 0x01 sp']; exact congrArg lo8 h, congrArg stackAddr⟩

/-! ## Branches and jumps -/

@[simp] theorem State.peek_fetchOpcode (s : State) (b : Addr) : s.fetchOpcode.peek b = s.peek b := rfl
@[simp] theorem State.mem_dummyNext (s : State) : s.dummyNext.mem = s.mem := rfl
@[simp] theorem State.sp_fetchByte (s : State) : s.fetchByte.sp = s.sp := rfl
@[simp] theorem State.pc_fetchByte (s : State) : s.fetchByte.pc = s.pc + 1 := rfl
@[simp] theorem State.mem_fetchByte (s : State) : s.fetchByte.mem = s.mem := rfl

theorem State.arch_branch (s : State) (taken : Bool) (d : Byte) :
    (s.branch taken d).arch = { s.arch with pc := if taken then s.pc + 1 + sext16 d else s.pc + 1 } := by
  cases taken
  case false => simp [State.branch]
  case true =>
    simp only [State.branch, if_true]
    split <;> simp

theorem State.mem_branch (s : State) (taken : Bool) (d : Byte) : (s.branch taken d).mem = s.mem := by
  cases taken
  case false => rfl
  case true =>
    simp only [State.branch, if_true]
    split <;> simp

theorem ofInt_toNat_add (pc : Addr) (taken : Bool) (d : Byte) :
    BitVec.ofInt 16 (pc.toNat + 1 + if taken then d.toInt else 0) =
      if taken then pc + 1 + sext16 d else pc + 1 := by
  cases taken <;> simp [BitVec.ofInt_add, sext16, BitVec.signExtend]

theorem State.arch_jmp (s : State) (f : AddrForm) : (s.jmp f).arch = { s.arch with pc := (s.resolve f).1 } := by
  simp [State.jmp, State.arch_resolve]

theorem getLsbD_joinBytes (hi lo : Byte) (i : Nat) :
    (joinBytes hi lo).getLsbD i = if i < 8 then lo.getLsbD i else hi.getLsbD (i - 8) :=
  BitVec.getLsbD_append

/-- The high byte of one address above the low byte of another, by masks (R106). -/
theorem joinBytes_hi8_lo8_eq_or (a b : Addr) : joinBytes (hi8 a) (lo8 b) = (a &&& 0xFF00) ||| (b &&& 0x00FF) := by
  apply BitVec.eq_of_getLsbD_eq
  intro i hi
  interval_cases i <;> simp [getLsbD_joinBytes, hi8, lo8, -BitVec.getLsbD_eq_getElem]

theorem indirectHighAddr_eq_or (p : Addr) : indirectHighAddr p = (p &&& 0xFF00) ||| ((p + 1) &&& 0x00FF) := by
  have next : lo8 p + 1 = lo8 (p + 1) := by
    apply BitVec.eq_of_toNat_eq
    rw [BitVec.toNat_add, lo8_toNat, lo8_toNat, BitVec.toNat_add]
    simp
  rw [indirectHighAddr, next, joinBytes_hi8_lo8_eq_or]

/-! ## Calls and returns -/

theorem State.arch_jsr (s : State) (a : Addr) : (s.jsr a).arch = { s.arch with pc := a, sp := s.sp - 2 } := by
  have two_pushes : s.sp - 1#8 - 1#8 = s.sp - 2#8 := by bv_omega
  simp [State.jsr, State.fetchByte, two_pushes]

/-- Memory after JSR: the two bytes of the address of its last byte (R201). -/
theorem State.peek_jsr (s : State) (a b : Addr) :
    (s.jsr a).peek b =
      if b = stackAddr (s.sp - 1) then lo8 (s.pc + 1) else if b = stackAddr s.sp then hi8 (s.pc + 1) else s.peek b := by
  have return_address : s.pc + 1 + 1 - 1 = s.pc + 1 := by bv_omega
  rw [State.jsr, State.peek_setPc, State.peek_push, State.peek_push, State.push_sp, State.internal_sp,
    State.sp_fetchByte, State.sp_fetchByte, State.internal_pc, State.pc_fetchByte, State.pc_fetchByte, return_address,
    State.peek_internal, State.peek_fetchByte, State.peek_fetchByte]

theorem State.arch_rts (s : State) :
    s.rts.arch =
      { s.arch with
        sp := s.sp + 2, pc := joinBytes (s.peek (stackAddr (s.sp + 2))) (s.peek (stackAddr (s.sp + 1))) + 1 } := by
  have two_pulls : s.sp + 1#8 + 1#8 = s.sp + 2#8 := by bv_omega
  simp [State.rts, State.pull, State.pulled, two_pulls]

theorem State.mem_rts (s : State) : s.rts.mem = s.mem := by
  simp [State.rts, State.pull]

/-! ## BRK, RTI and the stack instructions -/

@[simp] theorem State.sp_unpack (s : State) (p : Byte) : (s.unpack p).sp = s.sp := by
  simp [State.unpack]

theorem State.arch_returnFromInterrupt (s : State) :
    s.returnFromInterrupt.arch =
      { (s.unpack (s.peek (stackAddr (s.sp + 1)))).arch with
        sp := s.sp + 3, pc := joinBytes (s.peek (stackAddr (s.sp + 3))) (s.peek (stackAddr (s.sp + 2))) } := by
  have two_pulls : s.sp + 1#8 + 1#8 = s.sp + 2#8 := by bv_omega
  have three_pulls : s.sp + 2#8 + 1#8 = s.sp + 3#8 := by bv_omega
  simp [State.returnFromInterrupt, State.pull, State.pulled, two_pulls, three_pulls]

theorem State.mem_returnFromInterrupt (s : State) : s.returnFromInterrupt.mem = s.mem := by
  simp [State.returnFromInterrupt, State.pull, State.unpack]

theorem State.arch_pla (s : State) :
    s.pla.arch =
      { s.arch with a := s.peek (stackAddr (s.sp + 1)), sp := s.sp + 1 }.nz (s.peek (stackAddr (s.sp + 1))) := by
  simp [State.pla, State.pull, State.pulled, Arch.nz_eq]

theorem State.arch_plp (s : State) :
    s.plp.arch = { (s.unpack (s.peek (stackAddr (s.sp + 1)))).arch with sp := s.sp + 1 } := by
  simp [State.plp, State.pull, State.pulled]

/-- The image PHP pushes is `Pack(0)` with bit 4 set (10_state.md R17). -/
theorem State.pack_true_eq_or (s : State) : s.pack true = s.pack false ||| 0x10 := by
  apply BitVec.eq_of_getLsbD_eq
  intro i hi
  rw [BitVec.getLsbD_or, State.getLsbD_pack, State.getLsbD_pack]
  interval_cases i <;> simp

/-- Three bytes pushed one below the other stand at three addresses of the stack page. -/
theorem peek_of_three_pushes {s t : State} {high low image : Byte}
    (peek : ∀ a, t.peek a =
      if a = stackAddr (s.sp - 2) then image else if a = stackAddr (s.sp - 1) then low
      else if a = stackAddr s.sp then high else s.peek a) :
    t.peek (stackAddr s.sp) = high ∧ t.peek (stackAddr (s.sp - 1)) = low ∧ t.peek (stackAddr (s.sp - 2)) = image ∧
      SameMemoryBut [stackAddr s.sp, stackAddr (s.sp - 1), stackAddr (s.sp - 2)] s t := by
  have first_second : s.sp ≠ s.sp - 1 := by bv_omega
  have first_third : s.sp ≠ s.sp - 2 := by bv_omega
  have second_third : s.sp - 1 ≠ s.sp - 2 := by bv_omega
  refine ⟨?_, ?_, ?_, fun b other => ?_⟩
  · rw [peek, if_neg (mt stackAddr_inj.mp first_third), if_neg (mt stackAddr_inj.mp first_second), if_pos rfl]
  · rw [peek, if_neg (mt stackAddr_inj.mp second_third), if_pos rfl]
  · rw [peek, if_pos rfl]
  · simp only [List.mem_cons, List.not_mem_nil, or_false, not_or] at other
    obtain ⟨not_high, not_low, not_image⟩ := other
    rw [peek, if_neg not_image, if_neg not_low, if_neg not_high]

/-! ## The obligations -/

/-- Settles O34: both outcomes of a branch, and the target in integers. -/
theorem branchesBranch : Obligations.BranchesBranch := by
  intro s d gives
  have branches {i : Instr} {taken : Bool} (next : exec i s = .next (s.branch taken d)) : gives i taken := by
    refine ⟨_, next, .of_mem (s.mem_branch taken d), ?_⟩
    rw [State.arch_branch, ofInt_toNat_add]
  exact ⟨branches rfl, branches rfl, branches rfl, branches rfl, branches rfl, branches rfl, branches rfl, branches rfl⟩

/-- Settles O35: the effective address of each form. -/
theorem jumpsJump : Obligations.JumpsJump := by
  intro s a
  refine ⟨⟨_, rfl, s.arch_jmp (.abs a), .of_mem (s.mem_resolve (.abs a))⟩,
    ⟨_, rfl, .of_mem (s.mem_resolve (.ind a)), ?_⟩⟩
  rw [← indirectHighAddr_eq_or]
  exact s.arch_jmp (.ind a)

/-- Settles O36: two pushes at two addresses. -/
theorem subroutineCall : Obligations.SubroutineCall := by
  intro s a
  have apart : s.sp ≠ s.sp - 1 := by bv_omega
  refine ⟨s.jsr a, rfl, s.arch_jsr a, ?_, ?_, fun b other => ?_⟩
  · rw [State.peek_jsr, if_neg (mt stackAddr_inj.mp apart), if_pos rfl]
  · rw [State.peek_jsr, if_pos rfl]
  · simp only [List.mem_cons, List.not_mem_nil, or_false, not_or] at other
    obtain ⟨not_high, not_low⟩ := other
    rw [State.peek_jsr, if_neg not_low, if_neg not_high]

/-- Settles O37: two pulls, low byte first, and one past the address they give. -/
theorem subroutineReturn : Obligations.SubroutineReturn := fun s => ⟨s.rts, rfl, .of_mem s.mem_rts, s.arch_rts⟩

/-- Settles O38: three pushes at three addresses, off the page of the vector. -/
theorem breakTakesTheException : Obligations.BreakTakesTheException := fun s =>
  ⟨s.brk, rfl, s.arch_brk, peek_of_three_pushes (s.peek_brkSequence true irqVector)⟩

/-- Settles O39: three pulls, the first of them unpacked into the flags. -/
theorem returnFromInterrupt : Obligations.ReturnFromInterrupt := by
  intro s
  refine ⟨s.returnFromInterrupt, rfl, .of_mem s.mem_returnFromInterrupt, ?_⟩
  rw [State.arch_returnFromInterrupt, State.arch_unpack]

/-- Settles O41: one push after the dummy read. -/
theorem pushInstructions : Obligations.PushInstructions := by
  intro s pushes
  have pushed {i : Instr} {v : Byte} (next : exec i s = .next (s.dummyNext.push v)) : pushes i v := by
    have peek (b : Addr) : (s.dummyNext.push v).peek b = if b = stackAddr s.sp then v else s.peek b :=
      s.dummyNext.peek_push v b
    exact ⟨_, next, State.arch_push _ v, by rw [peek, if_pos rfl], .of_peek peek⟩
  exact ⟨pushed rfl, s.pack_true_eq_or ▸ pushed rfl⟩

/-- Settles O42: one pull after the dummy read and an internal cycle. -/
theorem pullInstructions : Obligations.PullInstructions := by
  intro s
  refine ⟨⟨s.pla, rfl, .of_mem ?_, s.arch_pla⟩, ⟨s.plp, rfl, .of_mem ?_, ?_⟩⟩
  · simp [State.pla, State.pull, State.setNZ]
  · simp [State.plp, State.pull, State.unpack]
  · rw [State.arch_plp, State.arch_unpack]

/-- Settles O52: RTS pulls what JSR pushed. -/
theorem returnResumesAfterCall : Obligations.ReturnResumesAfterCall := by
  intro s a
  have up₁ : s.sp - 2 + 1 = s.sp - 1 := by bv_omega
  have up₂ : s.sp - 2 + 2 = s.sp := by bv_omega
  have after : s.pc + 1 + 1 = s.pc + 2 := by bv_omega
  obtain ⟨t, call, arch, high, low, -⟩ := subroutineCall s a
  obtain ⟨u, ret, -, returned⟩ := subroutineReturn t.fetchOpcode
  have sp : t.fetchOpcode.sp = s.sp - 2 := congrArg Arch.sp arch
  have pc : t.pc = a := congrArg Arch.pc arch
  refine ⟨t, u, call, ret, returned.trans ?_⟩
  rw [sp, up₁, up₂, State.peek_fetchOpcode, State.peek_fetchOpcode, high, low, joinBytes_hi8_lo8, after,
    State.arch_fetchOpcode, arch, pc]
  rfl

end Sys2Proof.Machine
end

section
/-! PROOFS of the statements about servicing an interrupt and returning from it (60_exceptions.md R249 to R257). A
service and BRK leave the same frame on the stack; RTI pulls it, whoever pushed it. -/

namespace Sys2Proof.Machine

open Sys2Proof

/-! ## A service -/

/-- The vectors are off the stack page, so the pushes do not change them: a service loads PC from them as they were
(R250). -/
theorem State.arch_service_of_offStackPage {vector : Addr} (low : hi8 vector ≠ 0x01) (high : hi8 (vector + 1) ≠ 0x01)
    (extra : Nat) (s : State) :
    (s.service extra vector).arch =
      { s.arch with
        sp := s.sp - 3, flagI := true, pc := joinBytes (s.peek (vector + 1)) (s.peek vector) } := by
  rw [State.arch_service]
  simp only [State.peek_service, ne_stackAddr low, ne_stackAddr high, if_false]

/-- The last cycle of a service runs with I = 1, so it latches an NMI only (R250, R257). -/
theorem State.interruptThisCycle_service (extra : Nat) (s : State) (vector : Addr) :
    (s.service extra vector).interruptThisCycle = s.nmiPending := by
  have nmi : (State.internals extra s).nmiPending = s.nmiPending := congrArg Arch.nmiPending (s.arch_internals extra)
  simp [State.service, State.brkSequence, State.loadVector, State.push, nmi]

@[simp] theorem State.peek_setNmi (s : State) (v : Bool) (a : Addr) : (s.setNmi v).peek a = s.peek a := rfl

theorem State.setNmi_eq_self {s : State} {b : Bool} (same : s.nmiPending = b) : s.setNmi b = s := by
  rw [← same]
  rfl

/-- The vector of the source that is serviced first (R249). -/
def State.serviceVector (s : State) : Addr := if s.nmiPending then nmiVector else irqVector

/-- With the latch true and a source pending the poll services the first source and clears an NMI (R249). -/
theorem State.pollAndService_of_pending {s : State} (latch : s.interruptPrevCycle = true)
    (pending : s.nmiPending = true ∨ s.irqPending = true) :
    s.pollAndService = (s.service serviceExtraCycles s.serviceVector).setNmi false := by
  have nmi_kept : (s.service serviceExtraCycles irqVector).nmiPending = s.nmiPending := by
    simpa only [State.arch] using congrArg Arch.nmiPending (s.arch_service serviceExtraCycles irqVector)
  unfold State.pollAndService State.serviceVector
  cases nmi : s.nmiPending
  case true => simp [latch]
  case false =>
    have irq : s.irqPending = true := by simpa [nmi] using pending
    rw [nmi] at nmi_kept
    simp only [latch, irq, if_true, Bool.false_eq_true, if_false]
    exact (State.setNmi_eq_self nmi_kept).symm

/-! ## The return -/

/-- RTI at the head of a handler gives back what the frame on the stack holds: SP, the six flags and PC (R253). -/
theorem exec_rti_of_frame {s t : State} {pc : Addr} {b : Bool} (sp : t.sp = s.sp - 3)
    (high : t.peek (stackAddr s.sp) = hi8 pc) (low : t.peek (stackAddr (s.sp - 1)) = lo8 pc)
    (image : t.peek (stackAddr (s.sp - 2)) = s.pack b) :
    ∃ u, exec .rti t.fetchOpcode = .next u ∧
      u.arch = { t.arch with
        sp := s.sp, pc := pc, opcode := t.peek t.pc, flagC := s.flagC, flagZ := s.flagZ, flagI := s.flagI
        flagD := s.flagD, flagV := s.flagV, flagN := s.flagN } := by
  have up₁ : s.sp - 3 + 1 = s.sp - 2 := by bv_omega
  have up₂ : s.sp - 3 + 2 = s.sp - 1 := by bv_omega
  have up₃ : s.sp - 3 + 3 = s.sp := by bv_omega
  have fetched : t.fetchOpcode.sp = s.sp - 3 := sp
  obtain ⟨u, next, -, arch⟩ := returnFromInterrupt t.fetchOpcode
  refine ⟨u, next, arch.trans ?_⟩
  simp only [fetched, up₁, up₂, up₃, State.peek_fetchOpcode, high, low, image, joinBytes_hi8_lo8, State.getLsbD_pack]
  rfl

/-! ## The obligations -/

/-- Settles O56: the poll is one service; its frame is that of the BRK sequence. -/
theorem interruptServiceFrame : Obligations.InterruptServiceFrame := by
  intro s latch pending vector t
  have serviced : t = (s.service serviceExtraCycles vector).setNmi false :=
    State.pollAndService_of_pending latch pending
  have low : hi8 vector ≠ 0x01 := by
    simp only [vector]
    split <;> decide
  have high : hi8 (vector + 1) ≠ 0x01 := by
    simp only [vector]
    split <;> decide
  obtain ⟨high_byte, low_byte, image, same⟩ := peek_of_three_pushes (s := s) (t := t) fun a => by
    rw [serviced, State.peek_setNmi, State.peek_service]
  refine ⟨?arch, high_byte, low_byte, image, same, ?prev, ?this, ?cycles⟩
  case arch => rw [serviced, State.arch_setNmi, State.arch_service_of_offStackPage low high]
  case prev => rw [serviced, State.setNmi_interruptPrevCycle, State.service, State.setPrev_interruptPrevCycle]
  case this => rw [serviced, State.setNmi_interruptThisCycle, State.interruptThisCycle_service]
  case cycles => rw [serviced, State.setNmi_cycleCount, State.cycleCount_service, serviceExtraCycles]

/-- Settles O53: the frame of BRK holds its address + 2, that of a service the PC it found. -/
theorem returnResumesAfterBreak : Obligations.ReturnResumesAfterBreak := by
  constructor
  · intro s
    obtain ⟨t, brk, arch, high, low, image, -⟩ := breakTakesTheException s
    obtain ⟨u, rti, returned⟩ := exec_rti_of_frame (congrArg Arch.sp arch) high low image
    exact ⟨t, u, brk, rti, by rw [returned, arch]; rfl⟩
  · intro s latch pending t
    obtain ⟨arch, high, low, image, -⟩ := interruptServiceFrame s latch pending
    obtain ⟨u, rti, returned⟩ := exec_rti_of_frame (congrArg Arch.sp arch) high low image
    exact ⟨u, rti, by rw [returned, arch]; rfl⟩

/-- Settles O58: the latch at the end is the one the last cycle but one computed, and I is written after the last cycle,
but in RTI and BRK with two cycles to come. -/
theorem whenAChangeOfIActs : Obligations.WhenAChangeOfIActs := by
  intro s fetched before latch
  refine ⟨⟨_, rfl, fetched⟩, ⟨_, rfl, fetched⟩, ⟨_, rfl, ?plp⟩, ⟨_, rfl, ?rti⟩, ⟨_, rfl, ?brk⟩⟩
  case plp => simp [State.plp, State.pull, State.unpack, State.dummyNext, before]
  case rti => simp [State.returnFromInterrupt, State.pull, State.unpack, State.pulled]
  case brk => simp [State.brk, State.brkSequence, State.loadVector, State.push]

end Sys2Proof.Machine
end

section
/-! PROOFS of the statements about all instructions that look at each mnemonic: the cycle table (70_reset_and_hazards.md
R283) and the writers of each flag (10_state.md R19). -/

namespace Sys2Proof.Machine

open Sys2Proof

/-! ## The cycle table -/

/-- The modes with an indexed dummy read (40_step_and_addressing.md R108). -/
def indexedModes : List Mode := [.absoluteX, .absoluteY, .indirectY]

/-- The unconditional opcodes are the stores and the read-modify-writes in an indexed mode (30_encoding.md R79). -/
theorem uncond_opcode (i : Instr) :
    uncond i.opcode =
      decide (i.asm.mnemonic ∈ storeMnemonics ++ modifyMnemonics ∧ i.asm.operand.mode ∈ indexedModes) := by
  cases i <;> rw [Instr.opcode, encode, List.headD_cons] <;> rfl

/-- Only JMP has the mode `(abs)` (30_encoding.md R76). -/
theorem mode_ne_indirect {m : Mnemonic} {f : AddrForm} (wf : (Asm.mk m (.addr f)).wf = true) (other : m ≠ .JMP) :
    f.mode ≠ .indirect := by
  intro indirect
  have mem : f.mode ∈ m.modes := List.contains_iff_mem.mp wf
  rw [indirect] at mem
  cases m <;> simp [Mnemonic.modes] at mem other

/-- Row "read-type": the resolver's cycles, the read, and the opcode fetch. -/
theorem resolveCycles_of_read {s : State} {f : AddrForm} (direct : f.mode ≠ .indirect)
    (conditional : uncond s.opcode = false) : s.resolveCycles f + 2 = readCycles f + crossCost s f := by
  have dummy (base : Addr) (idx : Byte) : indexCycles s.opcode base idx = bit (pageCross base idx) := by
    rw [indexCycles, conditional, Bool.or_false, bit]
  cases f with
  | ind => exact absurd rfl direct
  | _ => simp [State.resolveCycles, readCycles, crossCost, dummy] <;> omega

/-- Row "store": as many cycles whether or not a page is crossed. -/
theorem resolveCycles_of_store {s : State} {f : AddrForm} (direct : f.mode ≠ .indirect)
    (unconditional : f.mode ∈ indexedModes → uncond s.opcode = true) : s.resolveCycles f + 2 = storeCycles f := by
  have dummy (indexed : f.mode ∈ indexedModes) (base : Addr) (idx : Byte) : indexCycles s.opcode base idx = 1 := by
    rw [indexCycles, unconditional indexed, Bool.or_true, Bool.toNat_true]
  cases f with
  | absX | absY | indY => simp [State.resolveCycles, storeCycles, dummy (by simp [AddrForm.mode, indexedModes])]
  | ind => exact absurd rfl direct
  | _ => rfl

theorem instrCycles_of_read {m : Mnemonic} (hm : m ∈ readMnemonics) (f : AddrForm) (s : State) :
    instrCycles ⟨m, .addr f⟩ s = readCycles f + crossCost s f := by
  cases m <;> simp [readMnemonics] at hm <;> rfl

theorem instrCycles_of_store {m : Mnemonic} (hm : m ∈ storeMnemonics) (f : AddrForm) (s : State) :
    instrCycles ⟨m, .addr f⟩ s = storeCycles f := by
  cases m <;> simp [storeMnemonics] at hm <;> rfl

theorem instrCycles_of_modify {m : Mnemonic} (hm : m ∈ modifyMnemonics) (f : AddrForm) (s : State) :
    instrCycles ⟨m, .addr f⟩ s = modifyCycles f := by
  cases m <;> simp [modifyMnemonics] at hm <;> rfl

theorem instrCycles_of_register {m : Mnemonic} (hm : m ∈ registerMnemonics) (s : State) :
    instrCycles ⟨m, .imp⟩ s = 2 := by
  cases m <;> simp [registerMnemonics] at hm <;> rfl

theorem State.cycleCount_jsr (s : State) (a : Addr) : (s.jsr a).cycleCount = s.cycleCount + 5 := rfl
theorem State.cycleCount_rts (s : State) : s.rts.cycleCount = s.cycleCount + 5 := rfl
theorem State.cycleCount_returnFromInterrupt (s : State) : s.returnFromInterrupt.cycleCount = s.cycleCount + 5 := rfl
theorem State.cycleCount_pha (s : State) : s.pha.cycleCount = s.cycleCount + 2 := rfl
theorem State.cycleCount_php (s : State) : s.php.cycleCount = s.cycleCount + 2 := rfl
theorem State.cycleCount_pla (s : State) : s.pla.cycleCount = s.cycleCount + 3 := rfl
theorem State.cycleCount_plp (s : State) : s.plp.cycleCount = s.cycleCount + 3 := rfl

/-- The rows of the table for an addressed operand. -/
theorem cycleCount_onAddress {i : Instr} {m : Mnemonic} {f : AddrForm} {s : State} (h : i.asm = ⟨m, .addr f⟩)
    (opcode : s.opcode = i.opcode) :
    (m.onAddress f s).cycleCount + 1 = s.cycleCount + instrCycles ⟨m, .addr f⟩ s := by
  have wf : (Asm.mk m (.addr f)).wf = true := h ▸ i.asm_wf
  have dummy : uncond s.opcode = decide (m ∈ storeMnemonics ++ modifyMnemonics ∧ f.mode ∈ indexedModes) := by
    rw [opcode, uncond_opcode, h]
    rfl
  have direct {l : List Mnemonic} (mem : m ∈ l) (noJmp : .JMP ∉ l) : f.mode ≠ .indirect :=
    mode_ne_indirect wf (ne_of_mem_of_not_mem mem noJmp)
  generalize access_eq : m.onAddress f s = t
  have access := access_eq ▸ m.onAddress_access f s
  cases access with
  | read mem rest =>
    have other : m ∉ storeMnemonics ++ modifyMnemonics :=
      (by decide : ∀ m ∈ readMnemonics, m ∉ storeMnemonics ++ modifyMnemonics) m mem
    have conditional : uncond s.opcode = false := by rw [dummy, decide_eq_false (not_and_of_not_left _ other)]
    have resolved := resolveCycles_of_read (direct mem (by decide)) conditional
    have count : t.cycleCount = (s.readOperand f).cycleCount := congrArg Rest.cycleCount rest
    rw [instrCycles_of_read mem, count, State.readOperand, State.memRead_cycleCount, State.cycleCount_resolve]
    omega
  | store mem v =>
    have resolved := resolveCycles_of_store (direct mem (by decide)) fun indexed => by
      rw [dummy, decide_eq_true ⟨List.mem_append_left _ mem, indexed⟩]
    rw [instrCycles_of_store mem, State.storeOperand, State.memWrite_cycleCount, State.cycleCount_resolve]
    omega
  | modify mem r rest =>
    have resolved := resolveCycles_of_store (direct mem (by decide)) fun indexed => by
      rw [dummy, decide_eq_true ⟨List.mem_append_right _ mem, indexed⟩]
    have count : t.cycleCount = (s.modifyOperand f r).cycleCount := congrArg Rest.cycleCount rest
    rw [instrCycles_of_modify mem, count, modifyCycles, State.modifyOperand, State.memWrite_cycleCount,
      State.memWrite_cycleCount, State.memRead_cycleCount, State.cycleCount_resolve]
    omega
  | jmp =>
    rw [State.jmp, State.setPc_cycleCount, State.cycleCount_resolve]
    cases f with
    | abs | ind => rfl
    | _ => simp [Asm.wf, Mnemonic.modes, Operand.mode, AddrForm.mode] at wf
  | jsr =>
    rw [State.cycleCount_jsr]
    cases f with
    | abs => rfl
    | _ => simp [Asm.wf, Mnemonic.modes, Operand.mode, AddrForm.mode] at wf
  | absent absent => exact absurd (List.contains_iff_mem.mp wf) absent

theorem cycleCount_branch (s : State) (taken : Bool) (d : Byte) :
    (s.branch taken d).cycleCount + 1 =
      s.cycleCount + if taken then 2 + takenCost (s.pc + 1) d else 2 := by
  cases taken
  case false => rfl
  case true =>
    by_cases samePage : hi8 (s.pc + 1) = hi8 (s.pc + 1 + sext16 d) <;>
      simp only [State.branch, takenCost, State.pc_fetchByte, State.setPc_cycleCount, samePage, if_true, if_false] <;>
      rfl

/-- The rows of the table for an instruction without an operand. -/
theorem cycleCount_alone {m : Mnemonic} (wf : (Asm.mk m .imp).wf = true) (s : State) :
    (m.alone s).cycleCount + 1 = s.cycleCount + instrCycles ⟨m, .imp⟩ s := by
  by_cases register : m ∈ registerMnemonics
  · have count : (m.alone s).cycleCount = s.cycleCount + 1 :=
      congrArg Rest.cycleCount (Mnemonic.rest_alone_of_register register s)
    rw [count, instrCycles_of_register register]
  cases m
  case PHA => exact congrArg (· + 1) s.cycleCount_pha
  case PHP => exact congrArg (· + 1) s.cycleCount_php
  case PLA => exact congrArg (· + 1) s.cycleCount_pla
  case PLP => exact congrArg (· + 1) s.cycleCount_plp
  case RTS => exact congrArg (· + 1) s.cycleCount_rts
  case RTI => exact congrArg (· + 1) s.cycleCount_returnFromInterrupt
  case BRK => exact congrArg (· + 1) (s.cycleCount_brkSequence true irqVector)
  case TAX | TAY | TXA | TYA | TSX | TXS | INX | INY | DEX | DEY | CLC | SEC | CLD | SED | CLI | SEI | CLV | NOP =>
    exact absurd (by decide) register
  all_goals cases wf

/-- The accumulator row of the table. -/
theorem cycleCount_onAccumulator {m : Mnemonic} (wf : (Asm.mk m .acc).wf = true) (s : State) :
    (m.onAccumulator s).cycleCount + 1 = s.cycleCount + 2 := by
  have shifted (p : Byte × Bool) : (s.shiftAcc p).cycleCount + 1 = s.cycleCount + 2 :=
    congrArg (·.cycleCount + 1) (s.rest_shiftAcc p)
  cases m
  case ASL | LSR | ROL | ROR => exact shifted _
  all_goals cases wf

/-! ## The obligations -/

/-- Settles O14: the table, kind of operand by kind of operand. -/
theorem everyInstructionTakesItsCycles : Obligations.EveryInstructionTakesItsCycles := by
  intro i s opcode
  refine ⟨_, exec_eq i s, ?_⟩
  have wf := i.asm_wf
  generalize written : i.asm = w at wf
  obtain ⟨m, operand⟩ := w
  cases operand with
  | addr f => exact cycleCount_onAddress written opcode
  | acc => exact cycleCount_onAccumulator wf s
  | rel d => exact cycleCount_branch s _ d
  | imp => exact cycleCount_alone wf s

end Sys2Proof.Machine
end

section
/-! PROOFS of the statement about the writers of each flag (10_state.md R19), mnemonic by mnemonic on the `Arch`
view. -/

namespace Sys2Proof.Machine

open Sys2Proof

/-! ## The rows of R19 -/

/-- The row of C. -/
def carryWriters : List Mnemonic :=
  [.ADC, .SBC, .CMP, .CPX, .CPY, .ASL, .LSR, .ROL, .ROR, .CLC, .SEC, .PLP, .RTI]

/-- The row of Z and N. -/
def zeroWriters : List Mnemonic :=
  [.LDA, .LDX, .LDY, .TAX, .TAY, .TXA, .TYA, .TSX, .PLA, .ADC, .SBC, .AND, .ORA, .EOR, .ASL, .LSR, .ROL, .ROR, .INC,
    .DEC, .INX, .INY, .DEX, .DEY, .CMP, .CPX, .CPY, .BIT, .PLP, .RTI]

/-- The row of I. -/
def interruptWriters : List Mnemonic := [.SEI, .CLI, .BRK, .PLP, .RTI]

/-- The row of D. -/
def decimalWriters : List Mnemonic := [.SED, .CLD, .PLP, .RTI]

/-- The row of V. -/
def overflowWriters : List Mnemonic := [.ADC, .SBC, .BIT, .CLV, .PLP, .RTI]

/-- From `r` to `r'` the mnemonic changed only flags in whose row it stands. -/
def KeepsFlags (m : Mnemonic) (r r' : Arch) : Prop :=
  (m ∉ carryWriters → r'.flagC = r.flagC) ∧ (m ∉ zeroWriters → r'.flagZ = r.flagZ ∧ r'.flagN = r.flagN) ∧
    (m ∉ interruptWriters → r'.flagI = r.flagI) ∧ (m ∉ decimalWriters → r'.flagD = r.flagD) ∧
    (m ∉ overflowWriters → r'.flagV = r.flagV)

/-- A mnemonic that changes registers other than flags keeps all rows. -/
theorem KeepsFlags.of_registers (m : Mnemonic) (r : Arch) (a x y sp : Byte) (pc : Addr) :
    KeepsFlags m r { r with a := a, x := x, y := y, sp := sp, pc := pc } :=
  ⟨fun _ => rfl, fun _ => ⟨rfl, rfl⟩, fun _ => rfl, fun _ => rfl, fun _ => rfl⟩

/-- Where all five rows name the mnemonic nothing is claimed. -/
theorem KeepsFlags.of_writes_all {m : Mnemonic} (r r' : Arch)
    (all : m ∈ carryWriters ∧ m ∈ zeroWriters ∧ m ∈ interruptWriters ∧ m ∈ decimalWriters ∧ m ∈ overflowWriters := by
      decide) : KeepsFlags m r r' := by
  obtain ⟨carry, zero, interrupt, decimal, overflow⟩ := all
  exact ⟨absurd carry, absurd zero, absurd interrupt, absurd decimal, absurd overflow⟩

/-- What the arithmetic unit writes: C, Z, N and V. -/
theorem KeepsFlags.of_alu {m : Mnemonic} (r : Arch) (out : AluOut) (pc : Addr) (freeIndex : Nat)
    (writes : m ∈ carryWriters ∧ m ∈ zeroWriters ∧ m ∈ overflowWriters := by decide) :
    KeepsFlags m r ({ r with pc := pc, freeIndex := freeIndex }.alu out) := by
  obtain ⟨carry, zero, overflow⟩ := writes
  exact ⟨absurd carry, absurd zero, fun _ => rfl, fun _ => rfl, absurd overflow⟩

/-! ## Mnemonic by mnemonic -/

theorem keepsFlags_onAddress (m : Mnemonic) (f : AddrForm) (s : State) :
    KeepsFlags m s.arch (m.onAddress f s).arch := by
  cases m
  case STA | STX | STY =>
    simp only [Mnemonic.onAddress, State.sta, State.stx, State.sty, State.arch_storeOperand]
    exact .of_registers _ s.arch s.a s.x s.y s.sp _
  case JMP =>
    simp only [Mnemonic.onAddress, State.arch_jmp]
    exact .of_registers _ s.arch s.a s.x s.y s.sp _
  case JSR =>
    simp only [Mnemonic.onAddress, State.arch_jsr]
    exact .of_registers _ s.arch s.a s.x s.y _ _
  case ADC =>
    rw [Mnemonic.onAddress]
    cases decimal : s.flagD
    · rw [State.arch_adcOperand_of_binary f decimal]
      exact .of_alu s.arch _ _ s.freeIndex
    · rw [State.arch_adcOperand_of_decimal f decimal]
      exact .of_alu s.arch _ _ _
  case SBC =>
    rw [Mnemonic.onAddress]
    cases decimal : s.flagD
    · rw [State.arch_sbcOperand_of_binary f decimal]
      exact .of_alu s.arch _ _ s.freeIndex
    · rw [State.arch_sbcOperand_of_decimal f decimal]
      exact .of_alu s.arch _ _ _
  case LDA | LDX | LDY | AND | ORA | EOR | BIT | CMP | CPX | CPY | ASL | LSR | ROL | ROR | INC | DEC =>
    simp [KeepsFlags, carryWriters, zeroWriters, overflowWriters, Mnemonic.onAddress, State.lda, State.ldx, State.ldy,
      State.and, State.ora, State.eor, State.logicResult, State.bit, State.bitTest, State.cmp, State.cpx, State.cpy,
      State.aslMem, State.lsrMem, State.rolMem, State.rorMem, State.shiftMem, State.shiftFlags, State.inc, State.dec]
  all_goals exact .of_registers _ s.arch s.a s.x s.y s.sp s.pc

theorem keepsFlags_onAccumulator (m : Mnemonic) (s : State) : KeepsFlags m s.arch (m.onAccumulator s).arch := by
  cases m
  case ASL | LSR | ROL | ROR =>
    simp [KeepsFlags, carryWriters, zeroWriters, Mnemonic.onAccumulator, State.aslAcc, State.lsrAcc, State.rolAcc,
      State.rorAcc, State.shiftAcc, State.shiftFlags]
  all_goals exact .of_registers _ s.arch s.a s.x s.y s.sp s.pc

theorem keepsFlags_alone (m : Mnemonic) (s : State) : KeepsFlags m s.arch (m.alone s).arch := by
  cases m
  case TAX | TAY | TXA | TYA | TSX | INX | INY | DEX | DEY | CLC | SEC | CLD | SED | CLI | SEI | CLV =>
    simp [KeepsFlags, carryWriters, zeroWriters, interruptWriters, decimalWriters, overflowWriters, Mnemonic.alone,
      State.tax, State.tay, State.txa, State.tya, State.tsx, State.inx, State.iny, State.dex, State.dey]
  case PLP | RTI => exact .of_writes_all _ _
  case TXS | PHA | PHP => simp [KeepsFlags, Mnemonic.alone, State.txs, State.pha, State.php]
  case PLA => simp [KeepsFlags, zeroWriters, Mnemonic.alone, State.arch_pla, Arch.nz]
  case RTS =>
    rw [Mnemonic.alone, State.arch_rts]
    exact .of_registers _ s.arch s.a s.x s.y _ _
  case BRK => simp [KeepsFlags, interruptWriters, Mnemonic.alone, State.arch_brk]
  all_goals exact .of_registers _ s.arch s.a s.x s.y s.sp s.pc

/-! ## The obligation -/

/-- Settles O16: the rows, kind of operand by kind of operand. -/
theorem onlyListedInstructionsWriteAFlag : Obligations.OnlyListedInstructionsWriteAFlag := by
  intro i s t next
  rw [exec_eq] at next
  cases next
  have keeps (w : Asm) : KeepsFlags w.mnemonic s.arch (w.meaning s).arch := by
    obtain ⟨m, operand⟩ := w
    cases operand with
    | addr f => exact keepsFlags_onAddress m f s
    | acc => exact keepsFlags_onAccumulator m s
    | rel d =>
      rw [Asm.meaning, State.arch_branch]
      exact .of_registers _ s.arch s.a s.x s.y s.sp _
    | imp => exact keepsFlags_alone m s
  exact keeps i.asm

end Sys2Proof.Machine
end
